-- ==== Sys2Proof/Word.lean ====
section
/-! DEFINITION. The number types of the block: the bytes of a payload or of the record, the 12-bit station numbers and the
circular 12-bit epochs (00_scope.md, "Units and conventions"). -/

namespace Sys2Proof

/-- One byte of a payload, of the commissioning record or of a service message. -/
abbrev Byte := BitVec 8

/-- A station (cell or gateway) number, 0..4095. -/
abbrev Station := BitVec 12

/-- An epoch, 0..4095, circular (R35). -/
abbrev Epoch := BitVec 12

end Sys2Proof
end

