-- ==== Sys2Proof/Syntax.lean ====
section
/-! DEFINITION. The commands of the block: one constructor of `Instr` for each row of spec/opcode_table.json, with the operands
the row's rule speaks of. -/

namespace Sys2Proof

/-- The four directions (00_scope.md). -/
inductive Dir where
  | north | east | south | west
deriving DecidableEq, Repr

/-- One value for each direction. -/
structure PerDir (α : Type) where
  north : α
  east : α
  south : α
  west : α
deriving DecidableEq, Repr

/-- The level of a track sensor input (1.2). -/
inductive Level where
  | active | inactive
deriving DecidableEq, Repr

/-- The four keys of the wall keypad (R132). -/
inductive Key where
  | warmer | cooler | brighter | dimmer
deriving DecidableEq, Repr

/-- What one read of the temperature sensor gives (R130): a reading in tenths of a degree, or no reply. -/
inductive SensorReading where
  | reading (tenths : Int)
  | noReply
deriving DecidableEq, Repr

/-- The four transmit slots (8.6), in the order that breaks a tie of the internal selection (R156). -/
inductive SlotId where
  | order | mark | nudge | tally
deriving DecidableEq, Repr

/-- What the start sequence samples and first reads (R175, R130, R132). -/
structure StartInputs where
  /-- the service jumper is held (step 1) -/
  jumper : Bool
  /-- the levels of the four track inputs (step 5) -/
  tracks : PerDir Level
  /-- the occupancy contact is found asserted when the sequence completes -/
  contact : Bool
  /-- the keys found down at the first read of the keypad -/
  keysDown : List Key
  /-- the result of the first sensor read -/
  sensor : SensorReading
deriving DecidableEq, Repr

/-- The commands, in the order of the table. A received frame carries the source number of its header and its payload as the
bits on the line, the first payload byte most significant (8.10); a service message carries its data bytes. -/
inductive Instr where
  | powerOnReset (inputs : StartInputs)
  | rawInputChange (d : Dir) (level : Level)
  | settleExpiry (d : Dir)
  | burstTimerExpiry
  | decayExpiry
  | silenceTimerExpiry (d : Dir)
  | markReceived (source : Station) (payload : BitVec 64)
  | quietExpiry
  | gatherEnd
  | roundClose
  | tallyReceived (source : Station) (payload : BitVec 96)
  | nudgeReceived (source : Station) (payload : BitVec 56)
  | presetReceived (source : Station) (payload : BitVec 64)
  | scheduleReceived (source : Station) (payload : BitVec 8)
  | orderReceived (source : Station) (payload : BitVec 96)
  | unknownKindFrame (source : Station) (kind : BitVec 3) (length : BitVec 5)
  | duplicateInAttempt
  | orderTimeout
  | localRound
  | occupancyAssertion
  | occupancyRelease
  | holdTimerExpiry
  | residencyMet
  | fadeStep
  | sensorRead (result : SensorReading)
  | keyPress (key : Key)
  | attemptStart
  | arbitrationLoss
  | acknowledged
  | unacknowledged
  | backoffEnd
  | lineIdle
  | lostStep
  | resynchronisationSilence
  | promotion (slot : SlotId)
  | beaconExpiry
  | readRecord (data : List Byte)
  | writeRecord (data : List Byte)
  | writeComplete
  | driveOutputs (data : List Byte)
  | unknownCommand (code : Byte) (data : List Byte)
  | messageIncomplete (bytes : List Byte)
  | startBit
  | replySent
  | resetStart
deriving DecidableEq, Repr

end Sys2Proof
end

