-- ==== Sys2Proof/Config.lean ====
section
/-! DEFINITION. What is fixed for every ZC-28: the length of the units of time in bit times, the fixed limits the rules
name, and the one free value of the model. -/

namespace Sys2Proof.Config

/-- The bit times of one second at 62.5 kbit/s (8.1). -/
def second : Nat := 62500

/-- The bit times of one minute. -/
def minute : Nat := 60 * second

/-- The promotion step: 40 ms of age, in bit times (8.1, R159). -/
def promotionStep : Nat := 2500

/-- The bit times of one backoff slot (8.1). -/
def backoffSlot : Nat := 16

/-- The neighbour silence limit, 20 s (R8). -/
def silenceLimit : Nat := 20 * second

/-- The beacon period, 5 s (R161). -/
def beaconPeriod : Nat := 5 * second

/-- The largest hop count of a label (R33). -/
def maxHops : Nat := 249

/-- DESIGN CHOICE, safe (log 2): FREE VALUE. Which of several events that are due at the same moment is taken first: the rules
on simultaneous events say "either may be taken first" (R4, R10, R25, R30, R46, R164 and their like). It is applied to the number of
ties decided so far; nothing is known of its values. -/
opaque tieChoice : Nat → Nat

end Sys2Proof.Config
end

