-- ==== Sys2Proof/Machine/State.lean ====
section
/-! DEFINITION. The state of one ZC-28, block by block, as the tables of the chapters list it, and its value right after reset.
Every timer is counted in bit times. A register that the spec calls "not loaded", "none" or "not kept" outside operation holds
a neutral value there, which nothing reads (log 4). -/

namespace Sys2Proof.Machine

/-- A timer: stopped (`none`), or running with that many bit times remaining. -/
abbrev Timer := Option Nat

/-- The edge kinds (1.1). -/
inductive EdgeKind where
  | wall | fixedOpen | trackOwned | trackMirror | boundary
deriving DecidableEq, Repr

/-- Sensed and applied states of an owned track (1.2). -/
inductive Track where
  | present | absent
deriving DecidableEq, Repr

/-- OPEN or CLOSED: a mirror view or an effective state. -/
inductive EdgeState where
  | opened | closed
deriving DecidableEq, Repr

/-- An own view, or a view reported in a MARK: OPEN, CLOSED or NONE (1.3). -/
inductive View where
  | opened | closed | noView
deriving DecidableEq, Repr

/-- The status of a neighbour entry (1.4). -/
inductive Status where
  | unknown | active | lost
deriving DecidableEq, Repr

/-- The last advert of a neighbour (1.4). -/
structure Advert where
  epoch : Epoch
  root : Station
  hops : Nat
  facing : View
deriving DecidableEq, Repr

/-- What the Edge Monitor keeps for one direction (1.2 to 1.6). -/
structure Edge where
  kind : EdgeKind
  neighbour : Option Station
  raw : Level
  sensed : Track
  applied : Track
  settle : Timer
  mirror : EdgeState
  status : Status
  silence : Timer
  advert : Option Advert
  mismatch : Bool
  effective : EdgeState
deriving DecidableEq, Repr

/-- The Churn Monitor (2.1). -/
structure Churn where
  count : Nat
  burst : Timer
  decay : Timer
  hold : Bool
deriving DecidableEq, Repr

/-- A label (3.1). -/
structure Label where
  epoch : Epoch
  root : Station
  hops : Nat
deriving DecidableEq, Repr

/-- The role states and the two start states (00_scope.md, "Cell roles"). `inReset` is the model's own name for the time
between RESET_START and the start sequence (R175, log 29). -/
inductive Role where
  | settling | await | member | orphan | headGather | headRun | mute
  | uncommissioned | service | inReset
deriving DecidableEq, Repr

/-- OCCUPIED or VACANT: a zone occupancy, in the zone record and in an ORDER (6.3). -/
inductive Occupancy where
  | occupied | vacant
deriving DecidableEq, Repr

/-- The floor mode (9.1). -/
inductive FloorMode where
  | day | evening | night
deriving DecidableEq, Repr

/-- A temperature delta and a light delta: a pending adjust, a pending nudge, the content of a NUDGE. -/
structure Deltas where
  temp : Int
  light : Int
deriving DecidableEq, Repr

/-- CALL or CONTROL (4.1, 8.10). -/
inductive OrderKind where
  | call | control
deriving DecidableEq, Repr

/-- The content of one ORDER with its source (7.1). -/
structure Order where
  epoch : Epoch
  source : Station
  round : BitVec 8
  kind : OrderKind
  census : Nat
  setpoint : Int
  lightPref : Int
  lightTarget : Int
  occupancy : Occupancy
  demand : Int
deriving DecidableEq, Repr

/-- The content of a MARK (R57). -/
structure Mark where
  epoch : Epoch
  root : Station
  hops : Nat
  views : PerDir View
  role : Role
  churn : Nat
  hold : Bool
  tempFault : Bool
  mismatch : Bool
  unheard : Bool
deriving DecidableEq, Repr

/-- The content of a TALLY (R125). -/
structure Tally where
  epoch : Epoch
  addressee : Station
  round : BitVec 8
  temperature : Option Int
  occupied : Bool
  tempPref : Int
  lightPref : Int
  lastDemand : Int
  tempFault : Bool
  hold : Bool
  mismatch : Bool
  unheard : Bool
deriving DecidableEq, Repr

/-- The content of a NUDGE (R134). -/
structure Nudge where
  epoch : Epoch
  addressee : Station
  deltas : Deltas
deriving DecidableEq, Repr

/-- The content of a PRESET as its bytes read (R169). -/
structure Preset where
  epoch : Epoch
  addressee : Station
  setpoint : Int
  lightPref : Int
deriving DecidableEq, Repr

/-- Freshness of a roll entry (4.2). -/
inductive Freshness where
  | fresh | carried
deriving DecidableEq, Repr

/-- One entry of the member roll (4.2). -/
structure Entry where
  cell : Station
  freshness : Freshness
  marked : Bool
  temperature : Option Int
  occupied : Bool
  tempPref : Int
  lightPref : Int
  lastDemand : Int
  sensorFault : Bool
deriving DecidableEq, Repr

/-- The residency timer (R108): stopped, counting up the bit times since the zone became OCCUPIED, or met. -/
inductive Residency where
  | stopped
  | counting (elapsed : Nat)
  | met
deriving DecidableEq, Repr

/-- The pending preset (4.1); absent when both parts are empty. -/
structure PendingPreset where
  setpoint : Option Int
  lightPref : Option Int
deriving DecidableEq, Repr

/-- The zone record with its member roll (4.1). -/
structure Zone where
  epoch : Epoch
  round : BitVec 8
  setpoint : Int
  lightPref : Int
  lightTarget : Int
  occupancy : Occupancy
  residency : Residency
  integrator : Int
  demand : Int
  census : Nat
  preset : PendingPreset
  adjust : Deltas
  roll : List Entry
  gather : Timer
  roundTimer : Timer
deriving DecidableEq, Repr

/-- The last answered round (7.1). -/
structure Answered where
  epoch : Epoch
  source : Station
  round : BitVec 8
deriving DecidableEq, Repr

/-- The occupancy hold timer (6.2): stopped, held at its full value, or running. -/
inductive HoldTimer where
  | stopped
  | held
  | running (remaining : Nat)
deriving DecidableEq, Repr

/-- Cell Control (7.1, 6.2). `spent` marks an outstanding NUDGE whose deltas an entry to a head role or to ORPHAN has already taken
over or applied, so that they are not subtracted when its flight ends (R135, log 25). -/
structure Cell where
  lastOrder : Option Order
  lastAnswered : Option Answered
  tempPref : Int
  lightPref : Int
  lastDemand : Int
  localIntegrator : Int
  localRound : Timer
  orderTimer : Timer
  nudge : Deltas
  outstanding : Option Deltas
  spent : Bool
  temperature : Option Int
  tempFault : Bool
  damper : Int
  reheat : Int
  contact : Bool
  occupied : Bool
  hold : HoldTimer
deriving DecidableEq, Repr

/-- The light output and its target (6.5, R116). `phase` is the model's own: the part of the present fade step that has
passed, in 1/62500 of a step (log 19). -/
structure Light where
  target : Int
  output : Int
  phase : Nat
deriving DecidableEq, Repr

/-- A frame in a transmit slot (8.6): IN_ATTEMPT or WAITING, its content, newer content, age in bit times, and counts. -/
structure Held (α : Type) where
  inAttempt : Bool
  content : α
  newer : Option α
  age : Nat
  losses : Nat
  lockout : Bool
  retries : Nat
deriving DecidableEq, Repr

/-- A transmit slot: EMPTY, or holding one frame (R155). -/
abbrev Slot (α : Type) := Option (Held α)

/-- The four transmit slots (8.6). -/
structure Slots where
  order : Slot Order
  mark : Slot Mark
  nudge : Slot Nudge
  tally : Slot Tally
deriving DecidableEq, Repr

/-- A station's view of the line (R143): `resync` is BUSY until the resynchronisation silence has been read; `notKept` outside
operation (R165). -/
inductive LineView where
  | notKept | idle | busy | resync
deriving DecidableEq, Repr

/-- A frame as it is driven on the line (8.2). -/
structure LineFrame where
  cls : Nat
  source : Station
  kind : BitVec 3
  payload : List Byte
  crc : BitVec 16
deriving DecidableEq, Repr

/-- An attempt in progress: the slot it was selected from and the frame as it stood at the start bit (R156, R159). -/
structure Attempt where
  slot : SlotId
  frame : LineFrame
deriving DecidableEq, Repr

/-- The Floor Line Interface without its slots (R165). `ackDriven` is the model's own record of an output (log 21). -/
structure Line where
  view : LineView
  assembling : Bool
  attempt : Option Attempt
  backoff : Option Nat
  generator : BitVec 16
  beacon : Timer
  unheard : Bool
  mute : Bool
  ackDriven : Bool
deriving DecidableEq, Repr

/-- The clamped copy of the commissioning record that the blocks use (R172, R173). -/
structure Params where
  own : Station
  gateways : List Station
  settle : Nat
  quiet : Nat
  gather : Nat
  control : Nat
  burst : Nat
  churnThreshold : Nat
  churnDepth : Nat
  churnDecay : Nat
  kp : Int
  ki : Int
  deadband : Int
  setback : Int
  tempPref : Int
  lightPref : Int
  standby : Int
  fadeRate : Nat
  minFlow : Int
  maxFlow : Int
  heatFlow : Int
  occupancyHold : Nat
  minResidency : Nat
deriving DecidableEq, Repr

/-- The Commissioning Store: the stored bytes, the written mark and the lock flag (R172, R174). -/
structure Store where
  bytes : List Byte
  written : Bool
  lock : Bool
deriving DecidableEq, Repr

/-- The reply codes of the service port (10.5). -/
inductive ReplyCode where
  | ok | locked | badLength | badCheck
deriving DecidableEq, Repr

/-- A reply of the service port. -/
structure Reply where
  code : ReplyCode
  data : List Byte
deriving DecidableEq, Repr

/-- The service port: ready for a message, writing the record it was sent, or sending a reply (R178, R179). -/
inductive Port where
  | ready
  | writing (record : List Byte)
  | replying (reply : Reply)
deriving DecidableEq, Repr

/-- The whole state of the block, with the queue of waiting commands. -/
structure State where
  role : Role
  params : Params
  edges : PerDir Edge
  churn : Churn
  label : Label
  quiet : Timer
  zone : Option Zone
  cell : Cell
  light : Light
  floorMode : FloorMode
  slots : Slots
  line : Line
  store : Store
  port : Port
  /-- the model's own: the ties between simultaneous events decided so far (log 2) -/
  ties : Nat
  pending : List Instr
deriving DecidableEq, Repr

/-- No rule stops the part: no meaning faults, so there is no fault to name. -/
inductive Fault where
deriving DecidableEq, Repr

/-- Why a command is refused. -/
inductive Refusal where
  /-- Raised by an arm of `exec` for a command that has no meaning yet; safe (a claim about the command cannot be proved). No
  arm raises it. -/
  | notModelled (mnemonic : String)
deriving DecidableEq, Repr

/-- The parameters while none are loaded (R19, R32, R58: "not loaded"). DESIGN CHOICE, unsafe (log 4): every number is 0. -/
def Params.unloaded : Params :=
  { own := 0, gateways := [], settle := 0, quiet := 0, gather := 0, control := 0, burst := 0, churnThreshold := 0,
    churnDepth := 0, churnDecay := 0, kp := 0, ki := 0, deadband := 0, setback := 0, tempPref := 0, lightPref := 0,
    standby := 0, fadeRate := 0, minFlow := 0, maxFlow := 0, heatFlow := 0, occupancyHold := 0, minResidency := 0 }

/-- A direction in UNCOMMISSIONED and after service entry (R19). DESIGN CHOICE, unsafe (log 4): the kind not loaded is held as
WALL, whose own view is the CLOSED of R19's table, and the unread raw input as inactive. -/
def Edge.unused : Edge :=
  { kind := .wall, neighbour := none, raw := .inactive, sensed := .absent, applied := .absent, settle := none,
    mirror := .closed, status := .unknown, silence := none, advert := none, mismatch := false, effective := .closed }

/-- Cell Control in UNCOMMISSIONED (R141, R117): damper command 200, reheat command 0. -/
def Cell.uncommissioned : Cell :=
  { lastOrder := none, lastAnswered := none, tempPref := 0, lightPref := 0, lastDemand := 0, localIntegrator := 0,
    localRound := none, orderTimer := none, nudge := ⟨0, 0⟩, outstanding := none, spent := false, temperature := none,
    tempFault := false, damper := 200, reheat := 0, contact := false, occupied := false, hold := .stopped }

/-- The Floor Line Interface in UNCOMMISSIONED and after service entry (R165). -/
def Line.unused : Line :=
  { view := .notKept, assembling := false, attempt := none, backoff := none, generator := 0, beacon := none,
    unheard := false, mute := false, ackDriven := false }

/-- The store of a new cell: no record (R172). DESIGN CHOICE, unsafe (log 16): the bytes behind the clear mark are 255. -/
def Store.new : Store := { bytes := List.replicate 42 0xFF#8, written := false, lock := true }

/-- Right after reset (log 3): a power-on reset of a new cell with no jumper fitted gives UNCOMMISSIONED (R172, R176). -/
def State.reset : State :=
  { role := .uncommissioned
    params := Params.unloaded
    edges := ⟨Edge.unused, Edge.unused, Edge.unused, Edge.unused⟩
    churn := { count := 0, burst := none, decay := none, hold := false }
    label := { epoch := 0, root := 0, hops := 0 }
    quiet := none
    zone := none
    cell := Cell.uncommissioned
    light := { target := 700, output := 0, phase := 0 }
    floorMode := .day
    slots := { order := none, mark := none, nudge := none, tally := none }
    line := Line.unused
    store := Store.new
    port := .ready
    ties := 0
    pending := [] }

end Sys2Proof.Machine
end

