-- ==== Sys2Proof/Machine/Climate.lean ====
section
/-! DEFINITION. The Climate Calculator (Chapter 5) and the mapping of a demand to the damper and reheat commands (R128): pure
arithmetic on integers, with the rounding modes of 00_scope.md. -/

namespace Sys2Proof.Machine

/-- A clamp to `lo..hi` (00_scope.md, "Units and conventions"). -/
def clamp (lo hi x : Int) : Int := max lo (min x hi)

/-- The clamp of a demand and of an integrator, -1000..+1000. -/
def clampDemand (x : Int) : Int := clamp (-1000) 1000 x

/-- The clamp of a setpoint or temperature preference, 120..300. -/
def clampSetpoint (x : Int) : Int := clamp 120 300 x

/-- The clamp of a light preference, 100..1000. -/
def clampLightPref (x : Int) : Int := clamp 100 1000 x

/-- The clamp of a pending nudge, a pending adjust and a received NUDGE: -50..+50 and -500..+500 (R66, R68, R133). -/
def clampDeltas (d : Deltas) : Deltas := ⟨clamp (-50) 50 d.temp, clamp (-500) 500 d.light⟩

/-- The sum of two pairs of deltas. -/
def addDeltas (a b : Deltas) : Deltas := ⟨a.temp + b.temp, a.light + b.light⟩

/-- The difference of two pairs of deltas. -/
def subDeltas (a b : Deltas) : Deltas := ⟨a.temp - b.temp, a.light - b.light⟩

/-- `num / den` rounded half up, for a non-negative `num` (00_scope.md, "Rounding"). -/
def roundHalfUp (num : Int) (den : Nat) : Int := (2 * num + den) / (2 * den)

/-- `num / den` rounded half away from zero (00_scope.md, "Rounding"). -/
def roundHalfAway (num : Int) (den : Nat) : Int :=
  if 0 ≤ num then roundHalfUp num den else -(roundHalfUp (-num) den)

/-- Stage 1, the zone temperature: the mean of the present temperatures, or absent (R86). -/
def zoneTemperature (temps : List (Option Int)) : Option Int :=
  match temps.filterMap id with
  | [] => none
  | t :: ts => some (roundHalfAway (t :: ts).sum (t :: ts).length)

/-- Stage 2, a mean of preferences: the sum over the number of entries, rounded half up (R87). -/
def meanPreference (prefs : List Int) : Int := roundHalfUp prefs.sum prefs.length

/-- The mean last demand M of stage 5 at a birth, rounded half away from zero (R91). -/
def meanDemand (demands : List Int) : Int := roundHalfAway demands.sum demands.length

/-- The effective deadband (R89). -/
def effectiveDeadband (p : Params) (occ : Occupancy) (mode : FloorMode) : Int :=
  match occ, mode with
  | .vacant, .evening => p.deadband + p.setback
  | .vacant, .night => p.deadband + p.setback
  | .vacant, .day => p.deadband
  | .occupied, _ => p.deadband

/-- Stage 3, the error: clamped to -200..+200, then taken as 0 inside the effective deadband (R88); 0 for an absent zone
temperature (R94). -/
def climateError (setpoint : Int) (tz : Option Int) (band : Int) : Int :=
  match tz with
  | none => 0
  | some t =>
    let d := clamp (-200) 200 (setpoint - t)
    if (d.natAbs : Int) ≤ band then 0 else d

/-- Stage 4, the proportional term (R90). -/
def proportional (p : Params) (e : Int) : Int := p.kp * e

/-- Stage 5 at a birth, the bumpless seed (R91). -/
def integratorSeed (m prop : Int) : Int := clampDemand (m - prop)

/-- The integral increment, its fraction dropped toward zero (R92). -/
def integralIncrement (p : Params) (e : Int) : Int := (p.ki * e).tdiv 10

/-- Both positive or both negative; 0 has the sign of neither (R92). -/
def sameSign (a b : Int) : Bool := decide ((0 < a ∧ 0 < b) ∨ (a < 0 ∧ b < 0))

/-- Stage 5 at a round close or local round: the increment is skipped when the sum lies beyond full output and the increment
has the sign of P + I (R92). -/
def integratorNext (prop i inc : Int) : Int :=
  if 1000 < (prop + i + inc).natAbs && sameSign inc (prop + i) then i else clampDemand (i + inc)

/-- Stage 6, the demand (R93). -/
def demandOf (prop i : Int) : Int := clampDemand (prop + i)

/-- The damper command for a demand (R128). -/
def damperFor (p : Params) (d : Int) : Int :=
  if d < 0 then p.minFlow + roundHalfUp (-d * (p.maxFlow - p.minFlow)) 1000
  else if d = 0 then p.minFlow
  else p.heatFlow

/-- The reheat command for a demand (R128). -/
def reheatFor (d : Int) : Int := if 0 < d then d else 0

/-- The light level for an occupancy, a floor mode and a light preference: the table of R111 at a head, the table of R115 in
local control. -/
def lightFor (p : Params) (occ : Occupancy) (mode : FloorMode) (pref : Int) : Int :=
  match occ, mode with
  | .occupied, _ => pref
  | .vacant, .day => p.standby
  | .vacant, .evening => 0
  | .vacant, .night => 0

end Sys2Proof.Machine
end

