-- ==== Sys2Proof/Machine/Operands.lean ====
section
/-! DEFINITION. The frames on the floor line: the check of R145, the payload layouts of 8.10 as a receiver reads them (R163) and
as a cell sends them, and the bits of a whole frame (8.2). A payload is a bit vector with its first byte most significant. -/

namespace Sys2Proof.Machine

/-- One bit shifted into the CRC register, generator x^16 + x^12 + x^5 + 1 (R145, R172). -/
def crcStep (reg : BitVec 16) (bit : Bool) : BitVec 16 :=
  if (reg.msb != bit) = true then (reg <<< 1) ^^^ 0x1021#16 else reg <<< 1

/-- The CRC of a row of bits: the register starts at all ones and is not inverted at the end (R145, R172). -/
def crc16 (bits : List Bool) : BitVec 16 := bits.foldl crcStep 0xFFFF#16

/-- The bits of a field, most significant first (8.2). -/
def bitsOf {w : Nat} (v : BitVec w) : List Bool := (List.range w).map v.getMsbD

/-- The bits of a row of bytes, each byte most significant bit first. -/
def bitsOfBytes (bytes : List Byte) : List Bool := bytes.flatMap bitsOf

/-- The `n` bytes of a payload, the first byte first. -/
def bytesOf (n : Nat) {w : Nat} (v : BitVec w) : List Byte :=
  (List.range n).map fun i => v.extractLsb' (8 * (n - 1 - i)) 8

/-- The bits the check of a frame covers: kind, length and payload (R145). -/
def checkedBits (kind : BitVec 3) (payload : List Byte) : List Bool :=
  bitsOf kind ++ bitsOf (BitVec.ofNat 5 payload.length) ++ bitsOfBytes payload

/-- The frame a cell sends, with its check (R145). -/
def lineFrame (cls : Nat) (source : Station) (kind : BitVec 3) (payload : List Byte) : LineFrame :=
  { cls := cls, source := source, kind := kind, payload := payload, crc := crc16 (checkedBits kind payload) }

/-- A frame is good when its CRC field agrees with the computed check (R145). -/
def LineFrame.good (f : LineFrame) : Bool := decide (f.crc = crc16 (checkedBits f.kind f.payload))

/-- The line bits of a frame as its sender sends them, from the start bit to the end field; 0 is dominant, the acknowledgement
slot is sent recessive (8.2). -/
def LineFrame.bits (f : LineFrame) : List Bool :=
  [false] ++ bitsOf (BitVec.ofNat 3 f.cls) ++ bitsOf f.source ++ checkedBits f.kind f.payload ++ bitsOf f.crc
    ++ [true] ++ List.replicate 7 true

/-! ### Codes -/

/-- The kind code of the frame a slot sends (R162). -/
def slotKindCode : SlotId → BitVec 3
  | .mark => 1
  | .tally => 2
  | .order => 3
  | .nudge => 4

/-- The view code of a MARK (8.10). -/
def View.code : View → BitVec 2
  | .closed => 0
  | .opened => 1
  | .noView => 2

/-- A received view code; 3 is read as CLOSED (R163). -/
def View.ofCode (c : BitVec 2) : View :=
  match c.toNat with
  | 1 => .opened
  | 2 => .noView
  | _ => .closed

/-- The role code of a MARK (8.10). A cell in a state outside the six sends no MARK (R57, R149); 7 stands in the unsent
content (log 23). -/
def Role.code : Role → BitVec 3
  | .settling => 0
  | .await => 1
  | .member => 2
  | .orphan => 3
  | .headGather => 4
  | .headRun => 5
  | .mute => 7
  | .uncommissioned => 7
  | .service => 7
  | .inReset => 7

/-- The floor mode a SCHEDULE code names; 3..255 name none (R167). -/
def FloorMode.ofCode (c : BitVec 8) : Option FloorMode :=
  match c.toNat with
  | 0 => some .day
  | 1 => some .evening
  | 2 => some .night
  | _ => none

/-- The facing edge of a direction (R1). -/
def facingDir : Dir → Dir
  | .north => .south
  | .east => .west
  | .south => .north
  | .west => .east

/-! ### Payloads as a receiver reads them (8.10, R163) -/

/-- The view of one edge in a MARK payload. -/
def markView (p : BitVec 64) : Dir → View
  | .north => View.ofCode (p.extractLsb' 22 2)
  | .east => View.ofCode (p.extractLsb' 20 2)
  | .south => View.ofCode (p.extractLsb' 18 2)
  | .west => View.ofCode (p.extractLsb' 16 2)

/-- The advert that a MARK from the neighbour in direction `d` gives: hops above 249 are stored as 249, and the view kept is
that of the facing edge (R11, R163). -/
def markAdvert (d : Dir) (p : BitVec 64) : Advert :=
  { epoch := p.extractLsb' 48 12
    root := p.extractLsb' 32 12
    hops := min Config.maxHops (p.extractLsb' 24 8).toNat
    facing := markView p (facingDir d) }

/-- A TALLY payload. -/
def tallyOf (p : BitVec 96) : Tally :=
  { epoch := p.extractLsb' 80 12
    addressee := p.extractLsb' 64 12
    round := p.extractLsb' 56 8
    temperature :=
      if p.extractLsb' 40 16 = 0x8000#16 then none else some (p.extractLsb' 40 16).toInt
    occupied := p.getLsbD 79
    tempPref := (p.extractLsb' 28 12).toNat
    lightPref := (p.extractLsb' 16 12).toNat
    lastDemand := (p.extractLsb' 0 16).toInt
    tempFault := p.getLsbD 92
    hold := p.getLsbD 93
    mismatch := p.getLsbD 94
    unheard := p.getLsbD 95 }

/-- An ORDER payload, with the source of its header. -/
def orderOf (source : Station) (p : BitVec 96) : Order :=
  { epoch := p.extractLsb' 80 12
    source := source
    round := p.extractLsb' 72 8
    kind := if p.getLsbD 95 then .control else .call
    census := (p.extractLsb' 64 8).toNat
    setpoint := (p.extractLsb' 48 16).toNat
    lightPref := (p.extractLsb' 32 16).toNat
    lightTarget := (p.extractLsb' 16 16).toNat
    occupancy := if p.getLsbD 94 then .occupied else .vacant
    demand := (p.extractLsb' 0 16).toInt }

/-- A NUDGE payload. -/
def nudgeOf (p : BitVec 56) : Nudge :=
  { epoch := p.extractLsb' 40 12
    addressee := p.extractLsb' 24 12
    deltas := ⟨(p.extractLsb' 16 8).toInt, (p.extractLsb' 0 16).toInt⟩ }

/-- A PRESET payload, unclamped (R169). -/
def presetOf (p : BitVec 64) : Preset :=
  { epoch := p.extractLsb' 48 12
    addressee := p.extractLsb' 32 12
    setpoint := (p.extractLsb' 16 16).toNat
    lightPref := (p.extractLsb' 0 16).toNat }

/-- The clamping of the Gateway Filter: a field of 0 stays 0 (R169). -/
def Preset.filtered (p : Preset) : Preset :=
  { p with
    setpoint := if p.setpoint = 0 then 0 else clampSetpoint p.setpoint
    lightPref := if p.lightPref = 0 then 0 else clampLightPref p.lightPref }

/-- The clamping of an accepted ORDER as it is stored (R120). -/
def Order.clamped (o : Order) : Order :=
  { o with
    setpoint := clampSetpoint o.setpoint
    lightPref := clampLightPref o.lightPref
    lightTarget := clamp 0 1000 o.lightTarget
    demand := clampDemand o.demand }

/-! ### Payloads as a cell sends them (8.10); reserved and unused high bits are 0 (R163) -/

/-- The payload of a MARK. -/
def markPayload (m : Mark) : BitVec 64 :=
  0#4 ++ m.epoch ++ 0#4 ++ m.root ++ BitVec.ofNat 8 m.hops
    ++ m.views.north.code ++ m.views.east.code ++ m.views.south.code ++ m.views.west.code
    ++ 0#1 ++ m.role.code ++ BitVec.ofNat 4 m.churn
    ++ 0#4 ++ BitVec.ofBool m.unheard ++ BitVec.ofBool m.mismatch ++ BitVec.ofBool m.tempFault ++ BitVec.ofBool m.hold

/-- The temperature field of a TALLY: -32768 for an absent temperature. -/
def temperatureField : Option Int → BitVec 16
  | none => 0x8000#16
  | some t => BitVec.ofInt 16 t

/-- The payload of a TALLY. -/
def tallyPayload (t : Tally) : BitVec 96 :=
  BitVec.ofBool t.unheard ++ BitVec.ofBool t.mismatch ++ BitVec.ofBool t.hold ++ BitVec.ofBool t.tempFault ++ t.epoch
    ++ BitVec.ofBool t.occupied ++ 0#3 ++ t.addressee ++ t.round ++ temperatureField t.temperature
    ++ BitVec.ofInt 12 t.tempPref ++ BitVec.ofInt 12 t.lightPref ++ BitVec.ofInt 16 t.lastDemand

/-- The payload of an ORDER. -/
def orderPayload (o : Order) : BitVec 96 :=
  BitVec.ofBool (decide (o.kind = .control)) ++ BitVec.ofBool (decide (o.occupancy = .occupied)) ++ 0#2 ++ o.epoch
    ++ o.round ++ BitVec.ofNat 8 o.census ++ BitVec.ofInt 16 o.setpoint ++ BitVec.ofInt 16 o.lightPref
    ++ BitVec.ofInt 16 o.lightTarget ++ BitVec.ofInt 16 o.demand

/-- The payload of a NUDGE. -/
def nudgePayload (n : Nudge) : BitVec 56 :=
  0#4 ++ n.epoch ++ 0#4 ++ n.addressee ++ BitVec.ofInt 8 n.deltas.temp ++ BitVec.ofInt 16 n.deltas.light

end Sys2Proof.Machine
end

