-- ==== Sys2Proof/Machine/Record.lean ====
section
/-! DEFINITION. The commissioning record (10.1): its check (R172), its layout, and the clamping of a good record as it is loaded
(R173), with the edges and neighbours that follow from it (R1). -/

namespace Sys2Proof.Machine

/-- One byte of the record as a number. -/
def recordByte (bytes : List Byte) (i : Nat) : Nat := (bytes.getD i 0).toNat

/-- A two-byte field of the record, most significant byte first. -/
def recordWord (bytes : List Byte) (i : Nat) : Nat := recordByte bytes i * 256 + recordByte bytes (i + 1)

/-- The check of the record: the CRC over bytes 0..39 equals bytes 40-41 (R172). -/
def recordCheck (bytes : List Byte) : Bool :=
  decide (crc16 (bitsOfBytes (bytes.take 40)) = BitVec.ofNat 16 (recordWord bytes 40))

/-- What the store reads as: 42 bytes of 255 while its written mark is clear (R172). -/
def Store.record (s : Store) : List Byte := if s.written then s.bytes else List.replicate 42 0xFF#8

/-- The record is good: the written mark is set and the check agrees (R172). -/
def Store.good (s : Store) : Bool := s.written && recordCheck s.bytes

/-- A clamp of a count. -/
def clampNat (lo hi n : Nat) : Nat := max lo (min n hi)

/-- A clamped one-byte field. -/
def byteField (bytes : List Byte) (i lo hi : Nat) : Nat := clampNat lo hi (recordByte bytes i)

/-- A clamped two-byte field. -/
def wordField (bytes : List Byte) (i lo hi : Nat) : Nat := clampNat lo hi (recordWord bytes i)

/-- The cell number of a record: row and column above 63 are read as 63 (R173). -/
def recordNumber (bytes : List Byte) : Station :=
  BitVec.ofNat 12 (byteField bytes 0 0 63 * 64 + byteField bytes 1 0 63)

/-- The gateway list: a count above 2 is read as 2, and the numbers use their low 12 bits (R173). -/
def recordGateways (bytes : List Byte) : List Station :=
  [BitVec.ofNat 12 (recordWord bytes 7), BitVec.ofNat 12 (recordWord bytes 9)].take (byteField bytes 6 0 2)

/-- The record clamped field by field, the three dependent fields last (R173). -/
def loadParams (bytes : List Byte) : Params :=
  let depth := byteField bytes 18 1 15
  let minFlow := wordField bytes 32 0 1000
  let maxFlow := max minFlow (wordField bytes 34 0 1000)
  { own := recordNumber bytes
    gateways := recordGateways bytes
    settle := byteField bytes 11 5 120
    quiet := byteField bytes 12 2 30
    gather := byteField bytes 13 2 20
    control := byteField bytes 14 10 120
    burst := wordField bytes 15 10 600
    churnThreshold := min (byteField bytes 17 1 15) depth
    churnDepth := depth
    churnDecay := byteField bytes 19 1 60
    kp := byteField bytes 20 0 100
    ki := byteField bytes 21 0 50
    deadband := byteField bytes 22 0 10
    setback := byteField bytes 23 0 50
    tempPref := wordField bytes 24 120 300
    lightPref := wordField bytes 26 100 1000
    standby := wordField bytes 28 0 1000
    fadeRate := wordField bytes 30 10 1000
    minFlow := minFlow
    maxFlow := maxFlow
    heatFlow := clampNat minFlow maxFlow (recordWord bytes 36)
    occupancyHold := byteField bytes 38 1 60
    minResidency := byteField bytes 39 0 30 }

/-- An edge kind code; 5..255 are read as WALL (R173). -/
def EdgeKind.ofCode (c : Nat) : EdgeKind :=
  match c with
  | 1 => .fixedOpen
  | 2 => .trackOwned
  | 3 => .trackMirror
  | 4 => .boundary
  | _ => .wall

/-- The edge kind the record holds for a direction. -/
def recordKind (bytes : List Byte) : Dir → EdgeKind
  | .north => EdgeKind.ofCode (recordByte bytes 2)
  | .east => EdgeKind.ofCode (recordByte bytes 3)
  | .south => EdgeKind.ofCode (recordByte bytes 4)
  | .west => EdgeKind.ofCode (recordByte bytes 5)

/-- The neighbour number of a direction, when that neighbour lies inside the grid (R1). -/
def neighbourNumber (own : Station) : Dir → Option Station
  | .north => if 1 ≤ own.toNat / 64 then some (own - 64) else none
  | .east => if own.toNat % 64 ≤ 62 then some (own + 1) else none
  | .south => if own.toNat / 64 ≤ 62 then some (own + 64) else none
  | .west => if 1 ≤ own.toNat % 64 then some (own - 1) else none

/-- The edge kind in use: BOUNDARY where no neighbour lies inside the grid, whatever the record holds (R1). -/
def startKind (own : Station) (bytes : List Byte) (d : Dir) : EdgeKind :=
  if neighbourNumber own d = none then .boundary else recordKind bytes d

end Sys2Proof.Machine
end

