-- ==== Sys2Proof/Machine/Slots.lean ====
section
/-! DEFINITION. The transmit slots (8.6): content handed to a slot, the ends of an attempt, the current class and the internal
selection; and the backoff generator (R154). -/

namespace Sys2Proof.Machine

/-- A fresh frame: WAITING, age 0, counts 0, lockout clear (R155). -/
def freshFrame {α : Type} (x : α) : Held α :=
  { inAttempt := false, content := x, newer := none, age := 0, losses := 0, lockout := false, retries := 0 }

/-- Content handed to a slot: a fresh frame in an EMPTY slot, the new content of a WAITING frame, or newer content beside a
frame IN_ATTEMPT (R155, R157). -/
def handSlot {α : Type} (x : α) : Slot α → Slot α
  | none => some (freshFrame x)
  | some f => some (if f.inAttempt then { f with newer := some x } else { f with content := x })

/-- Newer content, if held, replaces the content of a frame that stays in its slot (R157). -/
def takeNewer {α : Type} (f : Held α) : Held α :=
  match f.newer with
  | none => f
  | some x => { f with content := x, newer := none }

/-- The selected frame begins its attempt (R156). -/
def beginSlot {α : Type} : Slot α → Slot α
  | none => none
  | some f => some { f with inAttempt := true }

/-- An attempt lost in arbitration: WAITING, one more loss, the lockout at the eighth (R160). -/
def loseSlot {α : Type} : Slot α → Slot α
  | none => none
  | some f =>
    some (takeNewer { f with
      inAttempt := false
      losses := min 8 (f.losses + 1)
      lockout := f.lockout || decide (8 ≤ f.losses + 1) })

/-- The frame leaves its slot, which becomes EMPTY or takes the newer content as a fresh frame (R157, R158). -/
def leaveSlot {α : Type} : Slot α → Slot α
  | none => none
  | some f => f.newer.map freshFrame

/-- An unacknowledged attempt whose retry count was 0, 1 or 2: WAITING for a retry, loss count 0 (R151). -/
def retrySlot {α : Type} : Slot α → Slot α
  | none => none
  | some f => some (takeNewer { f with inAttempt := false, losses := 0, retries := f.retries + 1 })

/-- The attempt in progress at the entry to MUTE: the frame stays as WAITING with its content (R149, log 11); the attempt had won
arbitration (R147), so the loss count is 0 (R160). -/
def muteSlot {α : Type} : Slot α → Slot α
  | none => none
  | some f => some { f with inAttempt := false, losses := 0 }

/-- The age of a held frame, WAITING or IN_ATTEMPT, passes the next multiple of 40 ms: age grows "through waiting, backoffs and
attempts alike" (R159, log 18). -/
def promoteSlot {α : Type} : Slot α → Slot α
  | none => none
  | some f => some { f with age := (f.age / Config.promotionStep + 1) * Config.promotionStep }

/-- One bit time of ageing (R159). -/
def ageSlot {α : Type} : Slot α → Slot α
  | none => none
  | some f => some { f with age := f.age + 1 }

/-- The retry count of the frame in a slot. -/
def slotRetries {α : Type} : Slot α → Nat
  | none => 0
  | some f => f.retries

/-- The same change at one slot. -/
def mapSlot (f : {α : Type} → Slot α → Slot α) (id : SlotId) (sl : Slots) : Slots :=
  match id with
  | .order => { sl with order := f sl.order }
  | .mark => { sl with mark := f sl.mark }
  | .nudge => { sl with nudge := f sl.nudge }
  | .tally => { sl with tally := f sl.tally }

/-- The same change at all four slots. -/
def mapSlots (f : {α : Type} → Slot α → Slot α) (sl : Slots) : Slots :=
  { order := f sl.order, mark := f sl.mark, nudge := f sl.nudge, tally := f sl.tally }

/-- A number read from the frame in one slot. -/
def readSlot {β : Type} (f : {α : Type} → Slot α → β) (id : SlotId) (sl : Slots) : β :=
  match id with
  | .order => f sl.order
  | .mark => f sl.mark
  | .nudge => f sl.nudge
  | .tally => f sl.tally

/-- The base class of a slot (8.6). -/
def slotBaseClass : SlotId → Nat
  | .order => 2
  | .mark => 3
  | .nudge => 4
  | .tally => 5

/-- The current class of a frame: 0 while locked out, else the base class less one for each whole 40 ms, not below 1
(R159). -/
def currentClass {α : Type} (base : Nat) (f : Held α) : Nat :=
  if f.lockout then 0 else max 1 (base - f.age / Config.promotionStep)

/-- The current class and the age of a WAITING frame; nothing for an EMPTY slot or a frame IN_ATTEMPT. -/
def waitingRank {α : Type} (base : Nat) : Slot α → Option (Nat × Nat)
  | none => none
  | some f => if f.inAttempt then none else some (currentClass base f, f.age)

/-- The rank of a slot for the internal selection. -/
def slotRank (sl : Slots) (id : SlotId) : Option (Nat × Nat) := readSlot (waitingRank (slotBaseClass id)) id sl

/-- A lower class wins, then a greater age (R156). -/
def outranks (a b : Nat × Nat) : Bool := decide (a.1 < b.1 ∨ (a.1 = b.1 ∧ b.2 < a.2))

/-- One more slot taken into the internal selection: it replaces the best so far only when it outranks it, so that the earlier
slot wins a full tie (R156). -/
def selectNext (sl : Slots) (best : Option (SlotId × Nat × Nat)) (id : SlotId) : Option (SlotId × Nat × Nat) :=
  match slotRank sl id with
  | none => best
  | some r =>
    match best with
    | none => some (id, r)
    | some b => if outranks r b.2 then some (id, r) else some b

/-- The internal selection over ORDER, MARK, NUDGE, TALLY: the slot, its class and its age (R156). -/
def selectSlot (sl : Slots) : Option (SlotId × Nat × Nat) :=
  [SlotId.order, SlotId.mark, SlotId.nudge, SlotId.tally].foldl (selectNext sl) none

/-- The payload bytes of the frame in a slot, as it stands (8.10). -/
def slotPayload (sl : Slots) : SlotId → List Byte
  | .order => (sl.order.map fun f => bytesOf 12 (orderPayload f.content)).getD []
  | .mark => (sl.mark.map fun f => bytesOf 8 (markPayload f.content)).getD []
  | .nudge => (sl.nudge.map fun f => bytesOf 7 (nudgePayload f.content)).getD []
  | .tally => (sl.tally.map fun f => bytesOf 12 (tallyPayload f.content)).getD []

/-- One step of the backoff generator: stages shift up, stage 1 takes the exclusive-or of stages 16, 14, 13 and 11; stage k is
bit k - 1 (R154). -/
def generatorStep (g : BitVec 16) : BitVec 16 :=
  (g <<< 1) ||| (BitVec.ofBool (g.getLsbD 15 ^^ g.getLsbD 13 ^^ g.getLsbD 12 ^^ g.getLsbD 10)).setWidth 16

/-- A draw: three steps, whose output bits form the count, the first most significant (R154). -/
def drawCount (g : BitVec 16) : Nat :=
  let g1 := generatorStep g
  let g2 := generatorStep g1
  4 * g.msb.toNat + 2 * g1.msb.toNat + g2.msb.toNat

/-- The generator after a draw (R154). -/
def drawNext (g : BitVec 16) : BitVec 16 := generatorStep (generatorStep (generatorStep g))

end Sys2Proof.Machine
end

