-- ==== Sys2Proof/Machine/Flags.lean ====
section
/-! DEFINITION. What the blocks read off the state without changing it: durations, one direction's entry, own views and effective
states (R5, R15), the flags of a MARK and a TALLY (R13, R57, R125) and their contents. -/

namespace Sys2Proof.Machine

/-- A duration in seconds, in bit times. -/
def seconds (n : Nat) : Nat := n * Config.second

/-- A duration in minutes, in bit times. -/
def minutes (n : Nat) : Nat := n * Config.minute

/-- The four directions in the order that breaks every tie by direction: N, E, S, W. -/
def allDirs : List Dir := [.north, .east, .south, .west]

/-- The value of one direction. -/
def atDir {α : Type} (p : PerDir α) : Dir → α
  | .north => p.north
  | .east => p.east
  | .south => p.south
  | .west => p.west

/-- The same four values but one. -/
def setDir {α : Type} (p : PerDir α) (d : Dir) (x : α) : PerDir α :=
  match d with
  | .north => { p with north := x }
  | .east => { p with east := x }
  | .south => { p with south := x }
  | .west => { p with west := x }

/-- The Edge Monitor's entry of one direction. -/
def edgeAt (s : State) (d : Dir) : Edge := atDir s.edges d

/-- The state with another entry for one direction. -/
def setEdge (d : Dir) (e : Edge) (s : State) : State := { s with edges := setDir s.edges d e }

/-- The seven operating role states (R17, R20). -/
def Role.operating : Role → Bool
  | .settling | .await | .member | .orphan | .headGather | .headRun | .mute => true
  | .uncommissioned | .service | .inReset => false

/-- The two head roles. -/
def Role.isHead : Role → Bool
  | .headGather | .headRun => true
  | .settling | .await | .member | .orphan | .mute | .uncommissioned | .service | .inReset => false

/-- The two roles in local control (5.9). -/
def Role.isLocal : Role → Bool
  | .orphan | .mute => true
  | .settling | .await | .member | .headGather | .headRun | .uncommissioned | .service | .inReset => false

/-- The sensed state that corresponds to a raw level (1.2). -/
def trackOf : Level → Track
  | .active => .present
  | .inactive => .absent

/-- A mirror view as an own view. -/
def viewOf : EdgeState → View
  | .opened => .opened
  | .closed => .closed

/-- The mirror view a reported view gives: a reported NONE gives CLOSED (R6). -/
def mirrorOf : View → EdgeState
  | .opened => .opened
  | .closed => .closed
  | .noView => .closed

/-- The own view of a direction (R5). -/
def ownView (e : Edge) : View :=
  match e.kind with
  | .wall => .closed
  | .fixedOpen => .opened
  | .trackOwned => if e.applied = .present then .closed else .opened
  | .trackMirror => viewOf e.mirror
  | .boundary => .noView

/-- The effective state that the three inputs of R15 give. -/
def effectiveNow (e : Edge) : EdgeState :=
  if e.status = .active ∧ ownView e = .opened ∧ e.advert.map Advert.facing = some .opened then .opened else .closed

/-- The mismatch flag that a stored facing view gives, by the own edge kind (R12, R14). -/
def mismatchOf (kind : EdgeKind) (facing : View) : Bool :=
  match kind with
  | .wall => decide (facing ≠ .closed)
  | .fixedOpen => decide (facing ≠ .opened)
  | .trackOwned => decide (facing = .noView)
  | .trackMirror => decide (facing = .noView)
  | .boundary => false

/-- The MISMATCH flag of a frame: set while at least one direction's flag is set (R13). -/
def mismatchFlag (s : State) : Bool :=
  s.edges.north.mismatch || s.edges.east.mismatch || s.edges.south.mismatch || s.edges.west.mismatch

/-- The four own views (R7). -/
def ownViews (s : State) : PerDir View :=
  ⟨ownView s.edges.north, ownView s.edges.east, ownView s.edges.south, ownView s.edges.west⟩

/-- The content of a MARK formed now (R57). -/
def formMark (s : State) : Mark :=
  { epoch := s.label.epoch, root := s.label.root, hops := s.label.hops, views := ownViews s, role := s.role,
    churn := s.churn.count, hold := s.churn.hold, tempFault := s.cell.tempFault, mismatch := mismatchFlag s,
    unheard := s.line.unheard }

/-- The temperature a report carries: absent while TEMP_FAULT is set (R125, R67). -/
def reportedTemperature (c : Cell) : Option Int := if c.tempFault then none else c.temperature

/-- The content of a TALLY of a round formed now (R125). -/
def formTally (round : BitVec 8) (s : State) : Tally :=
  { epoch := s.label.epoch, addressee := s.label.root, round := round,
    temperature := reportedTemperature s.cell, occupied := s.cell.occupied, tempPref := s.cell.tempPref,
    lightPref := s.cell.lightPref, lastDemand := s.cell.lastDemand, tempFault := s.cell.tempFault,
    hold := s.churn.hold, mismatch := mismatchFlag s, unheard := s.line.unheard }

/-- The occupancy that a cell's own occupancy stands for in local control (R89, R115). -/
def cellOccupancy (c : Cell) : Occupancy := if c.occupied then .occupied else .vacant

/-- The direction whose neighbour number is `source`, if any (R8). -/
def neighbourDir (s : State) (source : Station) : Option Dir :=
  allDirs.find? fun d => decide ((edgeAt s d).neighbour = some source)

end Sys2Proof.Machine
end

