-- ==== Sys2Proof/Machine/Ops.lean ====
section
/-! DEFINITION. The operations the commands share, block by block: the Label Unit (R34 to R50), the transmit slots' users, Cell
Control (R112 to R137), the Zone Head (R59 to R76), the Edge Monitor (R3 to R16), the Churn Monitor (R21 to R29) and receive
routing (R148, R149, R162). -/

namespace Sys2Proof.Machine

/-- What a meaning answers. -/
abbrev Result := Host.Outcome State Fault Refusal

/-- A step that the cell takes in an operating role; in UNCOMMISSIONED, in SERVICE and while a reset lasts the blocks do not
run (R17, R20, R58, R83, R102, R165). -/
def whenOperating (f : State → State) (s : State) : Result := .next (if s.role.operating then f s else s)

/-! ### Label Unit -/

/-- A MARK queued with its content formed now (R56). -/
def queueMark (s : State) : State :=
  { s with slots := { s.slots with mark := handSlot (formMark s) s.slots.mark } }

/-- Epoch `a` is newer than epoch `b` (R35). -/
def newer (a b : Epoch) : Bool :=
  decide ((1 ≤ (a - b).toNat ∧ (a - b).toNat ≤ 2047) ∨ ((a - b).toNat = 2048 ∧ b.toNat < a.toNat))

/-- One more direction taken into the running newest epoch: its advert counts when the entry is ACTIVE and the effective state
OPEN (R36, R45). -/
def newestNext (s : State) (m : Epoch) (d : Dir) : Epoch :=
  match (edgeAt s d).advert with
  | none => m
  | some a =>
    if (edgeAt s d).status = .active ∧ (edgeAt s d).effective = .opened ∧ newer a.epoch m = true then a.epoch else m

/-- The newest epoch the cell knows across its open edges (R36). -/
def newestEpoch (s : State) : Epoch := allDirs.foldl (newestNext s) s.label.epoch

/-- The label order of 00_scope.md; it compares labels of one epoch. -/
def better (a b : Label) : Bool :=
  decide (a.root.toNat < b.root.toNat ∨ (a.root = b.root ∧ a.hops < b.hops))

/-- The neighbour candidate of a direction in an epoch (R37). -/
def candidate (s : State) (epoch : Epoch) (d : Dir) : Option Label :=
  match (edgeAt s d).advert with
  | none => none
  | some a =>
    if (edgeAt s d).effective = .opened ∧ a.epoch = epoch ∧ a.hops + 1 ≤ Config.maxHops then
      some { epoch := epoch, root := a.root, hops := a.hops + 1 }
    else none

/-- One more direction taken into the best candidate; the earlier direction keeps an equal label (R38). -/
def bestNext (s : State) (epoch : Epoch) (best : Label) (d : Dir) : Label :=
  match candidate s epoch d with
  | none => best
  | some c => if better c best then c else best

/-- The self candidate (R37). -/
def selfLabel (s : State) (epoch : Epoch) : Label := { epoch := epoch, root := s.params.own, hops := 0 }

/-- The best candidate of an epoch (R38). -/
def bestLabel (s : State) (epoch : Epoch) : Label := allDirs.foldl (bestNext s epoch) (selfLabel s epoch)

/-- Entry to SETTLING: the quiet timer runs from the full quiet time, a zone record is discarded (R50, R81), the order timer and
the local round timer stop (R126, R127, R100). Outputs, light target, last demand and preferences are held (R127). -/
def enterSettling (s : State) : State :=
  { s with
    quiet := some (seconds s.params.quiet)
    role := .settling
    zone := none
    cell := { s.cell with orderTimer := none, localRound := none } }

/-- A label change (R34, R50): the quiet timer restarts and the role becomes SETTLING, unless the role is MUTE, and a MARK
carrying the new label, and the role that goes with it (log 6), is queued. -/
def labelChange (l : Label) (s : State) : State :=
  if s.role = .mute then queueMark { s with label := l } else queueMark (enterSettling { s with label := l })

/-- Opening a new epoch with its recompute: one label change (R45, log 9). -/
def openEpoch (s : State) : State := labelChange (bestLabel s (newestEpoch s + 1)) s

/-- Adopting a newer epoch with its recompute: one label change (R40). -/
def adoptEpoch (epoch : Epoch) (s : State) : State := labelChange (bestLabel s epoch) s

/-- A recompute in the current epoch, with the worsening rule (R43). -/
def recompute (s : State) : State :=
  if better (bestLabel s s.label.epoch) s.label then labelChange (bestLabel s s.label.epoch) s
  else if bestLabel s s.label.epoch = s.label then s
  else openEpoch s

/-- The effective state of a direction re-evaluated; a change is handed to the Label Unit, which opens a new epoch (R16,
R44). -/
def reevaluate (d : Dir) (s : State) : State :=
  if effectiveNow (edgeAt s d) = (edgeAt s d).effective then s
  else openEpoch (setEdge d { edgeAt s d with effective := effectiveNow (edgeAt s d) } s)

/-- The arrival of a MARK at the Label Unit, with the advert just stored (R39 to R42). -/
def markArrival (d : Dir) (a : Advert) (s : State) : State :=
  if (edgeAt s d).effective = .closed then s
  else if newer a.epoch s.label.epoch then adoptEpoch a.epoch s
  else if a.epoch = s.label.epoch then recompute s
  else queueMark s

/-! ### Cell Control -/

/-- A light target set: the output fades toward it from where it stands, with its first step one step interval later (R116).
Setting the target to the value it has leaves a running fade as it is (log 19). -/
def setTarget (t : Int) (s : State) : State :=
  if t = s.light.target then s else { s with light := { s.light with target := t, phase := 0 } }

/-- A demand becomes the last demand, and the damper and reheat commands are its mapping (R128, R129). -/
def applyDemand (d : Int) (s : State) : State :=
  { s with cell := { s.cell with lastDemand := d, damper := damperFor s.params d, reheat := reheatFor d } }

/-- The light target a CONTROL ORDER gives, with the cell's preferences already taken from it (R112). -/
def orderTarget (o : Order) (s : State) : Int :=
  match o.occupancy with
  | .occupied => o.lightTarget
  | .vacant => if s.cell.occupied then s.cell.lightPref else o.lightTarget

/-- A CONTROL ORDER's content applied: preferences, demand, light target, in that order (R121). -/
def applyOrder (o : Order) (s : State) : State :=
  let s1 := { s with cell := { s.cell with tempPref := o.setpoint, lightPref := o.lightPref } }
  let s2 := applyDemand o.demand s1
  setTarget (orderTarget o s2) s2

/-- An ORDER stored as the last accepted ORDER and, for a CONTROL ORDER, applied; a CALL applies nothing (R120, R123). -/
def storeOrder (o : Order) (s : State) : State :=
  let s1 := { s with cell := { s.cell with lastOrder := some o } }
  match o.kind with
  | .call => s1
  | .control => applyOrder o s1

/-- The fast path of an occupancy onset (R113). -/
def fastPath (s : State) : State :=
  match s.cell.lastOrder with
  | none => s
  | some o => if o.occupancy = .vacant then setTarget s.cell.lightPref s else s

/-- The local light target (R115). -/
def localTarget (s : State) : Int := lightFor s.params (cellOccupancy s.cell) s.floorMode s.cell.lightPref

/-- The local light target formed anew (R115). -/
def formLocalTarget (s : State) : State := setTarget (localTarget s) s

/-- The error of a local computation: the cell as a zone of one (R86, R88, 5.9). -/
def localError (s : State) : Int :=
  climateError s.cell.tempPref (zoneTemperature [reportedTemperature s.cell])
    (effectiveDeadband s.params (cellOccupancy s.cell) s.floorMode)

/-- The integrator and the demand of a computation from the proportional term, in the seed form (R91). -/
def localBirth (s : State) : State :=
  let prop := proportional s.params (localError s)
  let i := integratorSeed (meanDemand [s.cell.lastDemand]) prop
  applyDemand (demandOf prop i) { s with cell := { s.cell with localIntegrator := i } }

/-- A local round: stages 1, 3, 4, 5 in the increment form, and 6 (R98). -/
def localComputation (s : State) : State :=
  let e := localError s
  let prop := proportional s.params e
  let i := integratorNext prop s.cell.localIntegrator (integralIncrement s.params e)
  applyDemand (demandOf prop i) { s with cell := { s.cell with localIntegrator := i } }

/-- The local round timer started with the full control interval. -/
def startLocalRound (s : State) : State :=
  { s with cell := { s.cell with localRound := some (seconds s.params.control) } }

/-- Two deltas added to the cell's own preferences, each clamped (R136). -/
def adjustPreferences (d : Deltas) (s : State) : State :=
  { s with cell := { s.cell with
      tempPref := clampSetpoint (s.cell.tempPref + d.temp)
      lightPref := clampLightPref (s.cell.lightPref + d.light) } }

/-- The steps of Cell Control at an entry to ORPHAN or MUTE (R137): the order timer stops, the pending nudge is applied to the
preferences and becomes empty, the local birth is made, the local light target is formed, the local round timer starts. A NUDGE
still outstanding will not be subtracted any more (R135). -/
def enterLocal (s : State) : State :=
  let s1 := adjustPreferences s.cell.nudge { s with cell := { s.cell with orderTimer := none } }
  let s2 := { s1 with cell := { s1.cell with nudge := ⟨0, 0⟩, spent := s.cell.outstanding.isSome } }
  startLocalRound (formLocalTarget (localBirth s2))

/-- Entry to MUTE (R149, R54): the MUTE flag, the role, the quiet timer and the zone record, then R137 with the outstanding
NUDGE cleared. A cell already in MUTE is left as it is. -/
def enterMute (s : State) : State :=
  if s.role = .mute then s
  else
    enterLocal { s with
      line := { s.line with mute := true }
      role := .mute
      quiet := none
      zone := none
      cell := { s.cell with outstanding := none } }

/-- Entry to ORPHAN (R126, R137). -/
def enterOrphan (s : State) : State := enterLocal { s with role := .orphan }

/-- A NUDGE handed when the pending nudge is not empty and none is outstanding (R134, step 1). -/
def offerNudge (s : State) : State :=
  if s.cell.nudge = ⟨0, 0⟩ ∨ s.cell.outstanding.isSome = true then s
  else
    { s with
      slots := { s.slots with
        nudge := handSlot { epoch := s.label.epoch, addressee := s.label.root, deltas := s.cell.nudge } s.slots.nudge }
      cell := { s.cell with outstanding := some s.cell.nudge, spent := false } }

/-- The pending nudge at the end of a flight: the delivered deltas are subtracted, unless an entry to a head role or to ORPHAN
has taken them over meanwhile (R134, step 3; R135). -/
def remainder (c : Cell) (d : Deltas) : Deltas := if c.spent then c.nudge else clampDeltas (subDeltas c.nudge d)

/-- The end of the outstanding NUDGE's flight (R134, step 3). -/
def flightEnd (s : State) : State :=
  match s.cell.outstanding with
  | none => s
  | some d =>
    match s.role with
    | .member =>
      offerNudge { s with cell := { s.cell with nudge := remainder s.cell d, outstanding := none, spent := false } }
    | .settling | .await =>
      { s with cell := { s.cell with nudge := remainder s.cell d, outstanding := none, spent := false } }
    | .orphan | .headGather | .headRun | .mute | .uncommissioned | .service | .inReset =>
      { s with cell := { s.cell with outstanding := none, spent := false } }

/-- A TALLY of a round handed to its slot, formed from the state as it stands (R125). -/
def queueTally (round : BitVec 8) (s : State) : State :=
  { s with slots := { s.slots with tally := handSlot (formTally round s) s.slots.tally } }

/-- The round an ORDER names, as the last answered round keeps it (R124). -/
def Order.answered (o : Order) : Answered := { epoch := o.epoch, source := o.source, round := o.round }

/-- The TALLY decision: the first ORDER of an epoch, source and round is answered, and no other (R124). -/
def answerOrder (o : Order) (s : State) : State :=
  if s.cell.lastAnswered = some o.answered then s
  else
    let s1 := queueTally o.round s
    { s1 with cell := { s1.cell with lastAnswered := some o.answered } }

/-- The order timer restarted with the full order timeout, three control intervals (R126). -/
def startOrderTimer (s : State) : State :=
  { s with cell := { s.cell with orderTimer := some (3 * seconds s.params.control) } }

/-- Entry to MEMBER (R51, R120 step 5): the quiet timer and the local round timer stop, and the pending nudge is handed on. -/
def enterMember (s : State) : State :=
  offerNudge { s with role := .member, quiet := none, cell := { s.cell with localRound := none } }

/-- Acceptance of a matching ORDER, in the order of R120. -/
def acceptOrder (o : Order) (s : State) : State :=
  let s1 := storeOrder o.clamped (startOrderTimer (answerOrder o s))
  if s.role = .member then s1 else enterMember s1

/-- The temperature and TEMP_FAULT after a sensor read (R130). -/
def readSensor (r : SensorReading) (s : State) : State :=
  match r with
  | .noReply => { s with cell := { s.cell with temperature := none, tempFault := true } }
  | .reading t =>
    if -100 ≤ t ∧ t ≤ 600 then { s with cell := { s.cell with temperature := some t, tempFault := false } }
    else { s with cell := { s.cell with temperature := none, tempFault := true } }

/-! ### Zone Head -/

/-- The ORDER a zone record gives (R60, R72). -/
def zoneOrder (own : Station) (kind : OrderKind) (z : Zone) : Order :=
  { epoch := z.epoch, source := own, round := z.round, kind := kind, census := z.census, setpoint := z.setpoint,
    lightPref := z.lightPref, lightTarget := z.lightTarget, occupancy := z.occupancy, demand := z.demand }

/-- The head queues an ORDER and hands the same content to its own Cell Control (R72, R123). -/
def queueOrder (kind : OrderKind) (z : Zone) (s : State) : State :=
  storeOrder (zoneOrder s.params.own kind z)
    { s with
      zone := some z
      slots := { s.slots with order := handSlot (zoneOrder s.params.own kind z) s.slots.order } }

/-- The zone record at its creation (R59). -/
def newZone (s : State) : Zone :=
  { epoch := s.label.epoch, round := 0, setpoint := s.cell.tempPref, lightPref := s.cell.lightPref, lightTarget := 0,
    occupancy := .vacant, residency := .stopped, integrator := 0, demand := 0, census := 1, preset := ⟨none, none⟩,
    adjust := s.cell.nudge, roll := [], gather := some (seconds s.params.gather), roundTimer := none }

/-- The record checks of R62: a head role, the own number as addressee, the record's epoch. -/
def zoneTakes (addressee : Station) (epoch : Epoch) (s : State) : Option Zone :=
  match s.zone with
  | none => none
  | some z => if s.role.isHead ∧ addressee = s.params.own ∧ epoch = z.epoch then some z else none

/-- The roll entry a TALLY gives (R63): FRESH with its round mark set. -/
def tallyEntry (source : Station) (t : Tally) : Entry :=
  { cell := source
    freshness := .fresh
    marked := true
    temperature :=
      if t.tempFault then none
      else t.temperature.bind fun x => if -100 ≤ x ∧ x ≤ 600 then some x else none
    occupied := t.occupied
    tempPref := clampSetpoint t.tempPref
    lightPref := clampLightPref t.lightPref
    lastDemand := clampDemand t.lastDemand
    sensorFault := t.tempFault }

/-- The head's own entry, from its own state (R67, R70). -/
def ownEntry (s : State) : Entry :=
  { cell := s.params.own
    freshness := .fresh
    marked := true
    temperature := reportedTemperature s.cell
    occupied := s.cell.occupied
    tempPref := s.cell.tempPref
    lightPref := s.cell.lightPref
    lastDemand := s.cell.lastDemand
    sensorFault := s.cell.tempFault }

/-- The roll has an entry for a cell number. -/
def rollHas (c : Station) (roll : List Entry) : Bool := roll.any fun e => decide (e.cell = c)

/-- An entry written into the roll: a new cell number gets the entry, a cell number already there keeps its freshness and takes
the rest (R64, R65). The list is kept in rising order of cell number (log 20). -/
def rollWrite (new : Entry) : List Entry → List Entry
  | [] => [new]
  | e :: es =>
    if new.cell = e.cell then { new with freshness := e.freshness } :: es
    else if new.cell.toNat < e.cell.toNat then new :: e :: es
    else e :: rollWrite new es

/-- A TALLY's entry taken under the limit of R61; nothing when the roll holds its limit and the cell is not in it. -/
def rollTake (limit : Nat) (new : Entry) (roll : List Entry) : Option (List Entry) :=
  if rollHas new.cell roll ∨ roll.length < limit then some (rollWrite new roll) else none

/-- One entry aged at a round close (R70). -/
def ageEntry (e : Entry) : Option Entry :=
  if e.marked then some { e with freshness := .fresh, marked := false }
  else match e.freshness with
    | .fresh => some { e with freshness := .carried }
    | .carried => none

/-- The residency timer started from zero; met at once with a minimum residency of 0 (R108). -/
def startResidency (p : Params) : Residency := if p.minResidency = 0 then .met else .counting 0

/-- The zone turned OCCUPIED: residency timer started, Lz formed anew (R109, R111). -/
def turnOccupied (p : Params) (mode : FloorMode) (z : Zone) : Zone :=
  { z with
    occupancy := .occupied
    residency := startResidency p
    lightTarget := lightFor p .occupied mode z.lightPref }

/-- The zone occupancy evaluated after an entry was written in HEAD_RUN, with the immediate ORDER when the zone turns OCCUPIED
(R65, R73, R109). -/
def evaluateWritten (entryOccupied : Bool) (z : Zone) (s : State) : State :=
  if entryOccupied = true ∧ z.occupancy = .vacant then
    queueOrder .control (turnOccupied s.params s.floorMode z) s
  else { s with zone := some z }

/-- A TALLY taken against the zone record (R62, R64, R65). -/
def headTally (source : Station) (t : Tally) (s : State) : State :=
  match zoneTakes t.addressee t.epoch s with
  | none => s
  | some z =>
    match s.role with
    | .headGather =>
      if t.round = 0 then
        match rollTake 249 (tallyEntry source t) z.roll with
        | none => s
        | some roll => { s with zone := some { z with roll := roll } }
      else s
    | .headRun =>
      if t.round = z.round then
        match rollTake 250 (tallyEntry source t) z.roll with
        | none => s
        | some roll => evaluateWritten t.occupied { z with roll := roll } s
      else s
    | .settling | .await | .member | .orphan | .mute | .uncommissioned | .service | .inReset => s

/-- New S and Lp in HEAD_RUN: an immediate ORDER when either changed, nothing otherwise (R73, R74, R75). -/
def changeZone (setpoint lightPref : Int) (z : Zone) (s : State) : State :=
  if setpoint = z.setpoint ∧ lightPref = z.lightPref then s
  else
    queueOrder .control
      { z with
        setpoint := setpoint
        lightPref := lightPref
        lightTarget := lightFor s.params z.occupancy s.floorMode lightPref } s

/-- Deltas taken by the record: added to the pending adjust in HEAD_GATHER, applied to S and Lp in HEAD_RUN (R68, R74). -/
def headDeltas (d : Deltas) (z : Zone) (s : State) : State :=
  match s.role with
  | .headGather => { s with zone := some { z with adjust := clampDeltas (addDeltas z.adjust d) } }
  | .headRun => changeZone (clampSetpoint (z.setpoint + d.temp)) (clampLightPref (z.lightPref + d.light)) z s
  | .settling | .await | .member | .orphan | .mute | .uncommissioned | .service | .inReset => s

/-- A NUDGE taken against the zone record, its deltas clamped first (R62, R66). -/
def headNudge (n : Nudge) (s : State) : State :=
  match zoneTakes n.addressee n.epoch s with
  | none => s
  | some z => headDeltas (clampDeltas n.deltas) z s

/-- A field of a PRESET: 0 means no change (R66). -/
def presetField (x : Int) : Option Int := if x = 0 then none else some x

/-- A filtered PRESET taken against the zone record: it replaces the pending preset whole in HEAD_GATHER and is applied in
HEAD_RUN (R62, R68, R75). -/
def headPreset (p : Preset) (s : State) : State :=
  match zoneTakes p.addressee p.epoch s with
  | none => s
  | some z =>
    match s.role with
    | .headGather =>
      { s with zone := some { z with preset := ⟨presetField p.setpoint, presetField p.lightPref⟩ } }
    | .headRun =>
      changeZone ((presetField p.setpoint).getD z.setpoint) ((presetField p.lightPref).getD z.lightPref) z s
    | .settling | .await | .member | .orphan | .mute | .uncommissioned | .service | .inReset => s

/-- The head's own occupancy onset in HEAD_RUN: its entry is set occupied and marked, then the zone is evaluated (R76). -/
def headOnset (s : State) : State :=
  match s.zone with
  | none => s
  | some z =>
    evaluateWritten true
      { z with roll := z.roll.map fun e => if e.cell = s.params.own then { e with occupied := true, marked := true } else e } s

/-! ### Edge Monitor and Churn Monitor -/

/-- A good frame from the neighbour of a direction: ACTIVE, silence timer restarted, and the effective state re-evaluated when
the status was another (R8). -/
def heard (d : Dir) (s : State) : State :=
  let s1 := setEdge d { edgeAt s d with status := .active, silence := some Config.silenceLimit } s
  if (edgeAt s d).status = .active then s1 else reevaluate d s1

/-- A MARK of the neighbour in direction `d` taken, in the order of R11. -/
def takeMark (d : Dir) (a : Advert) (s : State) : State :=
  let e := edgeAt s d
  let e1 := { e with status := .active, silence := some Config.silenceLimit, advert := some a }
  let e2 := if e.kind = .trackMirror then { e1 with mirror := mirrorOf a.facing } else e1
  let s1 := if e2.mirror = e.mirror then setEdge d e2 s else queueMark (setEdge d e2 s)
  let s2 := setEdge d { e2 with mismatch := mismatchOf e.kind a.facing } s1
  markArrival d a (reevaluate d s2)

/-- A churn event: absorbed while the burst timer runs, else counted, with the entry to HOLD (R21, R22, R27). -/
def churnEvent (s : State) : State :=
  if s.churn.burst.isSome then s
  else
    let count := if s.churn.count < s.params.churnDepth then s.churn.count + 1 else s.churn.count
    { s with churn :=
        { count := count
          burst := some (seconds s.params.burst)
          decay := some (minutes s.params.churnDecay)
          hold := s.churn.hold || decide (s.params.churnThreshold ≤ count) } }

/-- One owned track at the release of HOLD: its sensed state copied into its applied state, with the MARK and the new effective
state of an applied change; the edge change itself is handed afterwards (R29, log 8). -/
def copyTrack (s : State) (d : Dir) : State :=
  let e := edgeAt s d
  if e.kind = .trackOwned ∧ e.sensed ≠ e.applied then
    let e1 := { e with applied := e.sensed }
    setEdge d { e1 with effective := effectiveNow e1 } (queueMark (setEdge d e1 s))
  else s

/-- The release of HOLD (R29): the copies in the order N, E, S, W, then one edge change for each direction whose effective state
changed, in the same order. -/
def releaseHold (s : State) : State :=
  let s1 := { s with churn := { s.churn with hold := false } }
  let s2 := allDirs.foldl copyTrack s1
  allDirs.foldl (fun t d => if (edgeAt s2 d).effective = (edgeAt s1 d).effective then t else openEpoch t) s2

/-! ### Receive routing -/

/-- The receiver's part at the end of the acknowledgement slot of a good frame: the slot was driven dominant unless the station
is in MUTE, and the assembled frame is handed on (R150, R149). -/
def acknowledgeFrame (s : State) : State :=
  { s with line := { s.line with assembling := false, ackDriven := !s.line.mute } }

/-- A good frame taken at the end of its acknowledgement slot. While the station waits for the resynchronisation silence it
routes nothing (R143); a frame with its own number which it is driving is not received (R145), one which it is not driving puts
it into MUTE (R148); any other goes to `handler`, with the direction whose neighbour sent it (R162). -/
def receiveFrame (source : Station) (handler : Option Dir → State → State) (s : State) : State :=
  if s.line.view = .resync then s
  else if source = s.params.own then
    if s.line.attempt.isSome then s else enterMute (acknowledgeFrame s)
  else handler (neighbourDir s source) (acknowledgeFrame s)

/-- The Edge Monitor told that a neighbour was heard, if the source is one (R162, step 2). -/
def hearSource (nd : Option Dir) (s : State) : State :=
  match nd with
  | none => s
  | some d => heard d s

/-- The source is a listed gateway (R166). -/
def fromGateway (source : Station) (s : State) : Bool := decide (source ∈ s.params.gateways)

end Sys2Proof.Machine
end

