-- ==== Sys2Proof/Machine/LineCommands.lean ====
section
/-! DEFINITION. The commands of the Floor Line Interface (Chapter 8): the line view, attempts and their ends, backoff, promotion, the
beacon, and duplicate detection in an attempt. -/

namespace Sys2Proof.Machine

/-- The conditions of R144 for beginning a frame, but for a WAITING slot. -/
def mayBegin (s : State) : Bool := decide (s.line.view = .idle ∧ s.line.backoff = none ∧ s.line.mute = false)

/-- An attempt begun on a selected slot: the frame as it stands, at its current class; the line is BUSY from its start bit
(R143, R144, R156, R159). -/
def beginAttempt (id : SlotId) (cls : Nat) (s : State) : State :=
  { s with
    slots := mapSlot beginSlot id s.slots
    line := { s.line with
      view := .busy
      assembling := false
      attempt := some { slot := id, frame := lineFrame cls s.params.own (slotKindCode id) (slotPayload s.slots id) } } }

/-- The station begins a frame when R144 lets it. -/
def attemptStarted (s : State) : State :=
  if mayBegin s then
    match selectSlot s.slots with
    | none => s
    | some (id, cls, _) => beginAttempt id cls s
  else s

/-- ATTEMPT_START (R144, R156). -/
def execAttemptStart (s : State) : Result := whenOperating attemptStarted s

/-- A backoff drawn from the generator: the count in bit times (R153, R154, log 10). -/
def drawBackoff (s : State) : State :=
  { s with line := { s.line with
      backoff := some (Config.backoffSlot * drawCount s.line.generator)
      generator := drawNext s.line.generator } }

/-- The attempt in progress is over: its slot changes as its outcome says. -/
def endAttempt (f : {α : Type} → Slot α → Slot α) (id : SlotId) (s : State) : State :=
  { s with slots := mapSlot f id s.slots, line := { s.line with attempt := none } }

/-- An attempt lost in arbitration: the slot takes the loss, the station goes on as a receiver and draws a backoff (R146, R160,
R153). -/
def arbitrationLost (s : State) : State :=
  match s.line.attempt with
  | none => s
  | some a =>
    let s1 := endAttempt loseSlot a.slot s
    drawBackoff { s1 with line := { s1.line with assembling := true } }

/-- ARBITRATION_LOSS (R146). -/
def execArbitrationLoss (s : State) : Result := whenOperating arbitrationLost s

/-- The report of a frame that has left its slot, by kind (R158). -/
def reportLeaving (id : SlotId) (s : State) : State :=
  match id with
  | .mark => { s with line := { s.line with beacon := some Config.beaconPeriod } }
  | .nudge => flightEnd s
  | .order => s
  | .tally => s

/-- An acknowledged attempt: UNHEARD cleared, the frame leaves its slot (R150, R152, R158). -/
def attemptAcknowledged (s : State) : State :=
  match s.line.attempt with
  | none => s
  | some a =>
    let s1 := endAttempt leaveSlot a.slot s
    reportLeaving a.slot { s1 with line := { s1.line with unheard := false } }

/-- ACKNOWLEDGED (R150). -/
def execAcknowledged (s : State) : Result := whenOperating attemptAcknowledged s

/-- An unacknowledged attempt: kept for a retry, or dropped at a retry count of 3; a backoff is drawn in both cases (R151,
R152, R153, R158). -/
def attemptUnacknowledged (s : State) : State :=
  match s.line.attempt with
  | none => s
  | some a =>
    if readSlot slotRetries a.slot s.slots < 3 then drawBackoff (endAttempt retrySlot a.slot s)
    else
      let s1 := endAttempt leaveSlot a.slot s
      drawBackoff (reportLeaving a.slot { s1 with line := { s1.line with unheard := true } })

/-- UNACKNOWLEDGED (R151). -/
def execUnacknowledged (s : State) : Result := whenOperating attemptUnacknowledged s

/-- A winning sender reads another level than it sent: the frame stays in its slot as WAITING, and the station enters MUTE
(R147, R149). DESIGN CHOICE, safe (log 30): it assembles nothing until the next start bit. R146 has a loser of the arbitration
assemble the rest of the frame; of a station that enters MUTE in its own attempt R147 and R149 do not say. -/
def duplicateDetected (s : State) : State :=
  match s.line.attempt with
  | none => s
  | some a => enterMute (endAttempt muteSlot a.slot s)

/-- DUPLICATE_IN_ATTEMPT (R147). -/
def execDuplicateInAttempt (s : State) : Result := whenOperating duplicateDetected s

/-- BACKOFF_END (R153): the backoff being counted ends. -/
def execBackoffEnd (s : State) : Result :=
  whenOperating (fun s => { s with line := { s.line with backoff := none } }) s

/-- A count that stands at 0 ends (R153). -/
def endedBackoff (b : Option Nat) : Option Nat := if b = some 0 then none else b

/-- The line taken as IDLE: a draw of 0 ends the backoff at the first IDLE (R143, R153). -/
def becomeIdle (s : State) : State :=
  { s with line := { s.line with view := .idle, assembling := false, backoff := endedBackoff s.line.backoff } }

/-- The interframe gap ends (R143). -/
def gapEnded (s : State) : State := if s.line.view = .busy ∧ s.line.attempt = none then becomeIdle s else s

/-- LINE_IDLE (R143). -/
def execLineIdle (s : State) : Result := whenOperating gapEnded s

/-- A dominant bit in the end field or the gap: BUSY, assembling nothing, until the resynchronisation silence (R143). -/
def stepLost (s : State) : State :=
  if s.line.view = .busy ∧ s.line.attempt = none then
    { s with line := { s.line with view := .resync, assembling := false } }
  else s

/-- LOST_STEP (R143). -/
def execLostStep (s : State) : Result := whenOperating stepLost s

/-- 320 recessive bit times have been read (R143). -/
def silenceRead (s : State) : State := if s.line.view = .resync then becomeIdle s else s

/-- RESYNCHRONISATION_SILENCE (R143). -/
def execResynchronisationSilence (s : State) : Result := whenOperating silenceRead s

/-- PROMOTION (R159): the age of a held frame passes a multiple of 40 ms; the class of an attempt in progress does not change
(log 18). -/
def execPromotion (slot : SlotId) (s : State) : Result :=
  whenOperating (fun s => { s with slots := mapSlot promoteSlot slot s.slots }) s

/-- The beacon timer expires: a MARK is queued when the MARK slot is EMPTY, and the timer stops (R161). -/
def beaconEnded (s : State) : State :=
  if s.line.beacon.isSome then
    let s1 := if s.slots.mark = none then queueMark s else s
    { s1 with line := { s1.line with beacon := none } }
  else s

/-- BEACON_EXPIRY (R161). -/
def execBeaconExpiry (s : State) : Result := whenOperating beaconEnded s

/-- Another station's start bit on an IDLE line: BUSY, the assembler begins anew, a backoff keeps its remainder and one that
stands at 0 has ended (R143, R153, R164). -/
def startBitRead (s : State) : State :=
  if s.line.view = .idle then
    { s with line := { s.line with view := .busy, assembling := true, backoff := endedBackoff s.line.backoff } }
  else s

/-- START_BIT (R143). -/
def execStartBit (s : State) : Result := whenOperating startBitRead s

end Sys2Proof.Machine
end

