-- ==== Sys2Proof/Machine/CellCommands.lean ====
section
/-! DEFINITION. The commands of Cell Control (Chapters 5, 6 and 7): a received ORDER, the order timeout, local rounds, cell occupancy,
the fade of the light output, the temperature sensor and the keypad. -/

namespace Sys2Proof.Machine

/-- The roles that accept a matching ORDER (R119). -/
def Role.acceptsOrders : Role → Bool
  | .settling | .await | .member | .orphan => true
  | .headGather | .headRun | .mute | .uncommissioned | .service | .inReset => false

/-- An ORDER at Cell Control: accepted when its epoch and source are the cell's epoch and root, ignored otherwise (R119,
R51). -/
def takeOrder (o : Order) (s : State) : State :=
  if s.role.acceptsOrders ∧ o.epoch = s.label.epoch ∧ o.source = s.label.root then acceptOrder o s else s

/-- ORDER_RECEIVED (R119, R120). -/
def execOrderReceived (source : Station) (payload : BitVec 96) (s : State) : Result :=
  whenOperating (receiveFrame source fun nd s => takeOrder (orderOf source payload) (hearSource nd s)) s

/-- The order timer expires in AWAIT or MEMBER (R126, R52). -/
def orderTimedOut (s : State) : State :=
  if (s.role = .await ∨ s.role = .member) ∧ s.cell.orderTimer.isSome = true then enterOrphan s else s

/-- ORDER_TIMEOUT (R126, R137). -/
def execOrderTimeout (s : State) : Result := whenOperating orderTimedOut s

/-- The local round timer expires in ORPHAN or MUTE (R98). -/
def localRoundEnded (s : State) : State :=
  if s.role.isLocal ∧ s.cell.localRound.isSome = true then startLocalRound (localComputation s) else s

/-- LOCAL_ROUND (R98). -/
def execLocalRound (s : State) : Result := whenOperating localRoundEnded s

/-- The extra TALLY of an occupancy onset in MEMBER: the round of the last accepted ORDER (R105). -/
def extraTally (s : State) : State :=
  match s.cell.lastOrder with
  | none => s
  | some o => queueTally o.round s

/-- An occupancy onset, by the role at that moment (R105, R113). -/
def occupancyOnset (s : State) : State :=
  match s.role with
  | .member => fastPath (extraTally s)
  | .headRun => fastPath (headOnset s)
  | .headGather => fastPath s
  | .orphan | .mute => formLocalTarget s
  | .settling | .await | .uncommissioned | .service | .inReset => s

/-- An assertion of the occupancy contact (R103). -/
def contactAsserted (s : State) : State :=
  let s1 := { s with cell := { s.cell with contact := true, occupied := true, hold := .held } }
  if s.cell.occupied then s1 else occupancyOnset s1

/-- OCCUPANCY_ASSERTION (R103, R105). -/
def execOccupancyAssertion (s : State) : Result := whenOperating contactAsserted s

/-- A release of the occupancy contact: a held hold timer starts running from the full occupancy hold (R103). -/
def contactReleased (s : State) : State :=
  { s with cell := { s.cell with
      contact := false
      hold := if s.cell.hold = .held then .running (minutes s.params.occupancyHold) else s.cell.hold } }

/-- OCCUPANCY_RELEASE (R103). -/
def execOccupancyRelease (s : State) : Result := whenOperating contactReleased s

/-- The running hold timer expires: an occupancy end (R104, R106). -/
def holdEnded (s : State) : State :=
  match s.cell.hold with
  | .running _ =>
    let s1 := { s with cell := { s.cell with occupied := false, hold := .stopped } }
    if s.role.isLocal then formLocalTarget s1 else s1
  | .stopped => s
  | .held => s

/-- HOLD_TIMER_EXPIRY (R104). -/
def execHoldTimerExpiry (s : State) : Result := whenOperating holdEnded s

/-- One step of the fade: one permille toward the target (R116). -/
def fadeStepped (s : State) : State :=
  if s.light.output < s.light.target then
    { s with light := { s.light with output := s.light.output + 1, phase := s.light.phase - Config.second } }
  else if s.light.target < s.light.output then
    { s with light := { s.light with output := s.light.output - 1, phase := s.light.phase - Config.second } }
  else s

/-- FADE_STEP (R116): in every operating role and in UNCOMMISSIONED (R176); in SERVICE and while a reset lasts there is no fade
(R177, R175). -/
def execFadeStep (s : State) : Result :=
  .next (if s.role.operating = true ∨ s.role = .uncommissioned then fadeStepped s else s)

/-- SENSOR_READ (R130). -/
def execSensorRead (result : SensorReading) (s : State) : Result := whenOperating (readSensor result) s

/-- The step of a key (R68, R132). -/
def keyStep : Key → Deltas
  | .warmer => ⟨5, 0⟩
  | .cooler => ⟨-5, 0⟩
  | .brighter => ⟨0, 50⟩
  | .dimmer => ⟨0, -50⟩

/-- A press added to the pending nudge (R133). -/
def addToNudge (d : Deltas) (s : State) : State :=
  { s with cell := { s.cell with nudge := clampDeltas (addDeltas s.cell.nudge d) } }

/-- A press applied to the cell's own preferences: a changed light preference forms the local light target anew (R136). -/
def pressLocal (d : Deltas) (s : State) : State :=
  let s1 := adjustPreferences d s
  if s1.cell.lightPref = s.cell.lightPref then s1 else formLocalTarget s1

/-- A press, by the role at the moment it is taken (R132). -/
def keyPressed (key : Key) (s : State) : State :=
  match s.role with
  | .settling | .await => addToNudge (keyStep key) s
  | .member => offerNudge (addToNudge (keyStep key) s)
  | .headGather | .headRun =>
    match s.zone with
    | none => s
    | some z => headDeltas (keyStep key) z s
  | .orphan | .mute => pressLocal (keyStep key) s
  | .uncommissioned | .service | .inReset => s

/-- KEY_PRESS (R132). -/
def execKeyPress (key : Key) (s : State) : Result := whenOperating (keyPressed key) s

end Sys2Proof.Machine
end

