-- ==== Sys2Proof/Machine/StoreCommands.lean ====
section
/-! DEFINITION. The commands of the Commissioning Store (Chapter 10): resets and the start sequence, and the service port. -/

namespace Sys2Proof.Machine

/-! ### Resets -/

/-- No RAM state is kept over a reset; the stored record and its written mark are, and the lock flag is set (R174, R175). The
blocks hold the values of the UNCOMMISSIONED columns (R19, R32, R58, R83, R102, R117, R141, R165, R168). -/
def wiped (s : State) : State :=
  { State.reset with store := { s.store with lock := true }, ties := s.ties, pending := s.pending }

/-- The three outputs at 0 with no fade (R175, R177). -/
def outputsOff (s : State) : State :=
  { s with light := { target := 0, output := 0, phase := 0 }, cell := { s.cell with damper := 0, reheat := 0 } }

/-- RESET_START (R175): everything is abandoned, the lock flag is set, the outputs are at 0 while the reset lasts. -/
def execResetStart (s : State) : Result := .next (outputsOff { wiped s with role := .inReset })

/-- UNCOMMISSIONED (R176). -/
def enterUncommissioned (s : State) : State := wiped s

/-- SERVICE (R177): the lock flag is clear and the outputs are at 0. -/
def enterService (s : State) : State :=
  outputsOff { wiped s with role := .service, store := { s.store with lock := false } }

/-- A direction at start: its kind and neighbour number, and for an owned track the one sample that sets raw, sensed and applied
states (R1, R18). -/
def startEdge (own : Station) (bytes : List Byte) (tracks : PerDir Level) (d : Dir) : Edge :=
  let kind := startKind own bytes d
  let base := { Edge.unused with kind := kind, neighbour := neighbourNumber own d }
  if kind = .trackOwned then
    { base with raw := atDir tracks d, sensed := trackOf (atDir tracks d), applied := trackOf (atDir tracks d) }
  else base

/-- Steps 3 to 6 of the start sequence before the first MARK is queued (R175; R18, R32, R33, R58, R83, R102, R117, R141, R165,
R168). -/
def startState (bytes : List Byte) (tracks : PerDir Level) (s : State) : State :=
  let p := loadParams bytes
  { wiped s with
    role := .settling
    params := p
    edges := ⟨startEdge p.own bytes tracks .north, startEdge p.own bytes tracks .east,
      startEdge p.own bytes tracks .south, startEdge p.own bytes tracks .west⟩
    label := { epoch := 0, root := p.own, hops := 0 }
    quiet := some (seconds p.quiet)
    cell := { Cell.uncommissioned with
      tempPref := p.tempPref, lightPref := p.lightPref, damper := p.minFlow, reheat := 0 }
    light := { target := p.lightPref, output := 0, phase := 0 }
    line := { Line.unused with view := .resync, generator := p.own.setWidth 16 + 1 } }

/-- The start sequence with a good record: the first MARK is queued (R33), then the sensor has its first read (R130) and a
contact found asserted is taken as an assertion (R117). A key found down gives no press (R132). -/
def startOperating (inputs : StartInputs) (s : State) : State :=
  let s1 := readSensor inputs.sensor (queueMark (startState s.store.bytes inputs.tracks s))
  if inputs.contact then contactAsserted s1 else s1

/-- POWER_ON_RESET (R175): the service jumper first, then the record. -/
def execPowerOnReset (inputs : StartInputs) (s : State) : Result :=
  .next (if inputs.jumper then enterService s
    else if s.store.good then startOperating inputs s
    else enterUncommissioned s)

/-! ### The service port -/

/-- A reply begun. -/
def answer (code : ReplyCode) (data : List Byte) (s : State) : State := { s with port := .replying ⟨code, data⟩ }

/-- A message, complete or incomplete, at the service port (R174, R178): discarded while a write or a reply is not finished and
while a reset lasts; LOCKED while the lock flag is set; else as the message says. -/
def takeMessage (inService : State → State) (s : State) : State :=
  if s.role = .inReset then s
  else match s.port with
    | .ready => if s.store.lock then answer .locked [] s else inService s
    | .writing _ => s
    | .replying _ => s

/-- READ_RECORD (R178, R179). -/
def execReadRecord (data : List Byte) (s : State) : Result :=
  .next (takeMessage (fun s =>
    if data.length = 0 then answer .ok s.store.record s else answer .badLength [] s) s)

/-- A write accepted: the written mark is cleared first, and the write begins (R179). -/
def beginWrite (data : List Byte) (s : State) : State :=
  { s with store := { s.store with written := false }, port := .writing data }

/-- WRITE_RECORD (R178, R179). -/
def execWriteRecord (data : List Byte) (s : State) : Result :=
  .next (takeMessage (fun s =>
    if data.length = 42 then
      if recordCheck data then beginWrite data s else answer .badCheck [] s
    else answer .badLength [] s) s)

/-- All 42 bytes are stored: the written mark is set and OK is replied (R179). -/
def writeCompleted (s : State) : State :=
  match s.port with
  | .writing data => answer .ok [] { s with store := { s.store with bytes := data, written := true } }
  | .ready => s
  | .replying _ => s

/-- WRITE_COMPLETE (R179). -/
def execWriteComplete (s : State) : Result := .next (writeCompleted s)

/-- A two-byte output value of DRIVE OUTPUTS, clamped to 0..1000 (R180). -/
def outputField (data : List Byte) (i : Nat) : Int := clamp 0 1000 (recordWord data i)

/-- The three outputs set at once (R180). -/
def drive (data : List Byte) (s : State) : State :=
  { s with
    light := { s.light with output := outputField data 0 }
    cell := { s.cell with damper := outputField data 2, reheat := outputField data 4 } }

/-- DRIVE_OUTPUTS (R178, R180). -/
def execDriveOutputs (data : List Byte) (s : State) : Result :=
  .next (takeMessage (fun s =>
    if data.length = 6 then answer .ok [] (drive data s) else answer .badLength [] s) s)

/-- UNKNOWN_COMMAND (R178): no length is correct for an unknown command code. -/
def execUnknownCommand (_code : Byte) (_data : List Byte) (s : State) : Result :=
  .next (takeMessage (answer .badLength []) s)

/-- MESSAGE_INCOMPLETE (R178). -/
def execMessageIncomplete (_bytes : List Byte) (s : State) : Result :=
  .next (takeMessage (fun s => answer .badLength [] s) s)

/-- The reply has been sent in full: the port waits for the next message (R178). -/
def replyEnded (s : State) : State :=
  match s.port with
  | .replying _ => { s with port := .ready }
  | .ready => s
  | .writing _ => s

/-- REPLY_SENT (R178). -/
def execReplySent (s : State) : Result := .next (replyEnded s)

end Sys2Proof.Machine
end

