-- ==== Sys2Proof/Machine/Clock.lean ====
section
/-! DEFINITION. The cell's own clock, which runs when no command waits (log 2): the events that are due, and one bit time of
passing time. -/

namespace Sys2Proof.Machine

/-- A timer after one more bit time. -/
def tickTimer : Timer → Timer
  | none => none
  | some n => some (n - 1)

/-- A timer that has run out. -/
def ranOut (t : Timer) : Bool := decide (t = some 0)

/-- The command, when it is due. -/
def dueIf (b : Bool) (c : Instr) : List Instr := if b then [c] else []

/-- The fade rate in use, in permille per second: the record's, or 100 in UNCOMMISSIONED (R116, R176); no fade in SERVICE and
while a reset lasts. -/
def fadeRate (s : State) : Nat :=
  if s.role.operating then s.params.fadeRate
  else if s.role = .uncommissioned then 100
  else 0

/-- The light output is fading. -/
def fading (s : State) : Bool := decide (s.light.output ≠ s.light.target ∧ 0 < fadeRate s)

/-- The timers of a zone record that have run out. -/
def zoneDue (p : Params) (z : Zone) : List Instr :=
  dueIf (ranOut z.gather) .gatherEnd ++ dueIf (ranOut z.roundTimer) .roundClose
    ++ (match z.residency with
      | .counting n => dueIf (decide (minutes p.minResidency ≤ n)) .residencyMet
      | .stopped => []
      | .met => [])

/-- The timers of one direction that have run out. -/
def edgeDue (s : State) (d : Dir) : List Instr :=
  dueIf (ranOut (edgeAt s d).settle) (.settleExpiry d) ++ dueIf (ranOut (edgeAt s d).silence) (.silenceTimerExpiry d)

/-- The events due at this moment: timers that have run out, a fade step, the end of a backoff on an IDLE line, and an attempt
that R144 lets the station begin at once. -/
def dueCommands (s : State) : List Instr :=
  allDirs.flatMap (edgeDue s)
    ++ dueIf (ranOut s.churn.burst) .burstTimerExpiry
    ++ dueIf (ranOut s.churn.decay) .decayExpiry
    ++ dueIf (ranOut s.quiet) .quietExpiry
    ++ (match s.zone with
      | none => []
      | some z => zoneDue s.params z)
    ++ dueIf (ranOut s.cell.orderTimer) .orderTimeout
    ++ dueIf (ranOut s.cell.localRound) .localRound
    ++ dueIf (decide (s.cell.hold = .running 0)) .holdTimerExpiry
    ++ dueIf (fading s && decide (Config.second ≤ s.light.phase)) .fadeStep
    ++ dueIf (ranOut s.line.beacon) .beaconExpiry
    ++ dueIf (decide (s.line.view = .idle) && ranOut s.line.backoff) .backoffEnd
    ++ dueIf (s.role.operating && mayBegin s && (selectSlot s.slots).isSome) .attemptStart

/-- One bit time at one direction. -/
def tickEdge (e : Edge) : Edge := { e with settle := tickTimer e.settle, silence := tickTimer e.silence }

/-- One bit time at a zone record. -/
def tickZone (z : Zone) : Zone :=
  { z with
    gather := tickTimer z.gather
    roundTimer := tickTimer z.roundTimer
    residency := match z.residency with
      | .counting n => .counting (n + 1)
      | .stopped => .stopped
      | .met => .met }

/-- One bit time at the hold timer: it runs only after a release (R103). -/
def tickHold : HoldTimer → HoldTimer
  | .stopped => .stopped
  | .held => .held
  | .running n => .running (n - 1)

/-- One bit time at the fade: while the output differs from the target a step is due each 1/(fade rate) s (R116, log 19). -/
def tickLight (s : State) : Light :=
  if fading s then { s.light with phase := s.light.phase + fadeRate s } else s.light

/-- One bit time passes: every running timer counts, every held frame ages, a backoff counts on an IDLE line (R153, R159).
DESIGN CHOICE, unsafe (log 31): ages grow with the bit time, before the events that fall due in it, so a frame that reaches a
multiple of 40 ms in the bit time of a start bit is promoted first; R164 lets either come first. -/
def advance (s : State) : State :=
  { s with
    edges := ⟨tickEdge s.edges.north, tickEdge s.edges.east, tickEdge s.edges.south, tickEdge s.edges.west⟩
    churn := { s.churn with burst := tickTimer s.churn.burst, decay := tickTimer s.churn.decay }
    quiet := tickTimer s.quiet
    zone := s.zone.map tickZone
    cell := { s.cell with
      localRound := tickTimer s.cell.localRound
      orderTimer := tickTimer s.cell.orderTimer
      hold := tickHold s.cell.hold }
    light := tickLight s
    slots := mapSlots ageSlot s.slots
    line := { s.line with
      beacon := tickTimer s.line.beacon
      backoff := if s.line.view = .idle then tickTimer s.line.backoff else s.line.backoff } }

/-- What the clock does next: nothing is due and time passes; or one event is due; or several are, and a free value says which
is taken first (log 2). -/
def clockChoice (s : State) : Option (Instr × State) :=
  match dueCommands s with
  | [] => none
  | [c] => some (c, s)
  | c :: cs => some ((c :: cs).getD (Config.tieChoice s.ties % (c :: cs).length) c, { s with ties := s.ties + 1 })

end Sys2Proof.Machine
end

