-- ==== Sys2Proof/Machine/EdgeCommands.lean ====
section
/-! DEFINITION. The commands of the Edge Monitor and the Churn Monitor (Chapters 1 and 2): raw changes and settle expiries of owned
tracks, the burst, decay and silence timers, and a received MARK. -/

namespace Sys2Proof.Machine

/-- A raw change of an owned track: the settle timer starts, or stops on a return to the sensed state (R2). -/
def rawChanged (d : Dir) (level : Level) (s : State) : State :=
  let e := edgeAt s d
  if e.kind = .trackOwned ∧ level ≠ e.raw then
    setEdge d { e with
      raw := level
      settle := if trackOf level = e.sensed then none else some (seconds s.params.settle) } s
  else s

/-- RAW_INPUT_CHANGE (R2, R17). -/
def execRawInputChange (d : Dir) (level : Level) (s : State) : Result := whenOperating (rawChanged d level) s

/-- The decay of the churn count, with the release of HOLD (R24). -/
def decayEnded (s : State) : State :=
  if s.churn.decay.isSome then
    let count := s.churn.count - 1
    let s1 := { s with churn := { s.churn with
      count := count
      decay := if 0 < count then some (minutes s.params.churnDecay) else none } }
    if s.churn.hold = true ∧ count < s.params.churnThreshold then releaseHold s1 else s1
  else s

/-- A churn event handed by a settle expiry. When the decay timer has run out at the same moment and the burst timer is stopped, the
decay expiry may be taken before the event or not happen at all (R25, R30): a free value decides (log 2). -/
def handChurnEvent (s : State) : State :=
  if s.churn.burst = none ∧ s.churn.decay = some 0 then
    let s1 := { s with ties := s.ties + 1 }
    if Config.tieChoice s.ties % 2 = 0 then churnEvent s1 else churnEvent (decayEnded s1)
  else churnEvent s

/-- The settle of an owned track ends, in the order of R3. -/
def settleEnded (d : Dir) (s : State) : State :=
  let e := edgeAt s d
  if e.kind = .trackOwned ∧ e.settle.isSome = true then
    let applied := if s.churn.hold then e.applied else trackOf e.raw
    let s1 := setEdge d { e with settle := none, sensed := trackOf e.raw, applied := applied } s
    let s2 := handChurnEvent s1
    if applied = e.applied then s2 else reevaluate d (queueMark s2)
  else s

/-- SETTLE_EXPIRY (R3, R28, R30). -/
def execSettleExpiry (d : Dir) (s : State) : Result := whenOperating (settleEnded d) s

/-- BURST_TIMER_EXPIRY (R23). -/
def execBurstTimerExpiry (s : State) : Result :=
  whenOperating (fun s => { s with churn := { s.churn with burst := none } }) s

/-- DECAY_EXPIRY (R24, R29). -/
def execDecayExpiry (s : State) : Result := whenOperating decayEnded s

/-- The silence timer of an ACTIVE entry expires: the entry is LOST (R9). -/
def silenceEnded (d : Dir) (s : State) : State :=
  let e := edgeAt s d
  if e.status = .active ∧ e.silence.isSome = true then
    reevaluate d (setEdge d { e with status := .lost, silence := none } s)
  else s

/-- SILENCE_TIMER_EXPIRY (R9). -/
def execSilenceTimerExpiry (d : Dir) (s : State) : Result := whenOperating (silenceEnded d) s

/-- MARK_RECEIVED (R11, R39, R162): from a neighbour the advert is stored; from any other source it is not routed. -/
def execMarkReceived (source : Station) (payload : BitVec 64) (s : State) : Result :=
  whenOperating (receiveFrame source fun nd s =>
    match nd with
    | none => s
    | some d => takeMark d (markAdvert d payload) s) s

/-- UNKNOWN_KIND_FRAME (R162): only the neighbour entry is refreshed. -/
def execUnknownKindFrame (source : Station) (_kind : BitVec 3) (_length : BitVec 5) (s : State) : Result :=
  whenOperating (receiveFrame source hearSource) s

end Sys2Proof.Machine
end

