-- ==== Sys2Proof/Machine/HeadCommands.lean ====
section
/-! DEFINITION. The commands of the Zone Head and the Gateway Filter (Chapters 4, 6 and 9): the quiet expiry that makes a head or
a waiting member, the gather end and the round close, received TALLY, NUDGE, PRESET and SCHEDULE frames, and the residency. -/

namespace Sys2Proof.Machine

/-- Entry to HEAD_GATHER: the zone record is created, the pending nudge is taken over, the CALL is queued (R59, R60). A NUDGE
still outstanding will not be subtracted any more (R135). -/
def enterHeadGather (s : State) : State :=
  queueOrder .call (newZone s)
    { s with
      role := .headGather
      quiet := none
      cell := { s.cell with orderTimer := none, nudge := ⟨0, 0⟩, spent := s.cell.outstanding.isSome } }

/-- Entry to AWAIT: the order timer starts (R48, R126). -/
def enterAwait (s : State) : State := startOrderTimer { s with role := .await, quiet := none }

/-- The quiet timer expires (R48). -/
def quietEnded (s : State) : State :=
  if s.role = .settling ∧ s.quiet.isSome = true then
    if s.label.root = s.params.own then enterHeadGather s else enterAwait s
  else s

/-- QUIET_EXPIRY (R48). -/
def execQuietExpiry (s : State) : Result := whenOperating quietEnded s

/-- The temperature a roll entry enters stage 1 with: absent while its sensor fault is set (R86). -/
def entryTemperature (e : Entry) : Option Int := if e.sensorFault then none else e.temperature

/-- The occupancy a roll gives at a birth (R109). -/
def rollOccupancy (roll : List Entry) : Occupancy := if roll.any Entry.occupied then .occupied else .vacant

/-- The roll at the gather end: the own entry is in it, every entry FRESH and unmarked (R67, steps 1 and 2). -/
def birthRoll (s : State) (z : Zone) : List Entry :=
  (rollWrite (ownEntry s) z.roll).map fun e => { e with freshness := .fresh, marked := false }

/-- The zone record after its birth (R67, steps 1 to 7; R69, R87, R91). -/
def bornZone (s : State) (z : Zone) : Zone :=
  let roll := birthRoll s z
  let setpoint :=
    clampSetpoint (z.preset.setpoint.getD (clampSetpoint (meanPreference (roll.map Entry.tempPref))) + z.adjust.temp)
  let lightPref :=
    clampLightPref (z.preset.lightPref.getD (meanPreference (roll.map Entry.lightPref)) + z.adjust.light)
  let occ := rollOccupancy roll
  let e := climateError setpoint (zoneTemperature (roll.map entryTemperature))
    (effectiveDeadband s.params occ s.floorMode)
  let prop := proportional s.params e
  let i := integratorSeed (meanDemand (roll.map Entry.lastDemand)) prop
  { z with
    round := 1
    setpoint := setpoint
    lightPref := lightPref
    lightTarget := lightFor s.params occ s.floorMode lightPref
    occupancy := occ
    residency := match occ with
      | .occupied => startResidency s.params
      | .vacant => .stopped
    integrator := i
    demand := demandOf prop i
    census := roll.length
    preset := ⟨none, none⟩
    adjust := ⟨0, 0⟩
    roll := roll
    gather := none
    roundTimer := some (seconds s.params.control) }

/-- The gather timer expires: the zone is born (R67, R53). -/
def gatherEnded (s : State) : State :=
  match s.zone with
  | none => s
  | some z =>
    if s.role = .headGather ∧ z.gather.isSome = true then
      queueOrder .control (bornZone s z) { s with role := .headRun }
    else s

/-- GATHER_END (R67). -/
def execGatherEnd (s : State) : Result := whenOperating gatherEnded s

/-- The roll after a round close: the own entry refreshed, then every entry aged (R70). -/
def closedRoll (s : State) (z : Zone) : List Entry := (rollWrite (ownEntry s) z.roll).filterMap ageEntry

/-- The occupancy and the residency a round close decides (R109, R110). -/
def closeOccupancy (p : Params) (roll : List Entry) (z : Zone) : Occupancy × Residency :=
  match z.occupancy, roll.any Entry.occupied with
  | .vacant, true => (.occupied, startResidency p)
  | .vacant, false => (.vacant, z.residency)
  | .occupied, true => (.occupied, z.residency)
  | .occupied, false => if z.residency = .met then (.vacant, .stopped) else (.occupied, z.residency)

/-- The round after a round: 255 is followed by 1 (R71). -/
def nextRound (r : BitVec 8) : BitVec 8 := if r = 255 then 1 else r + 1

/-- The zone record after a round close (R70, R71). -/
def closedZone (s : State) (z : Zone) : Zone :=
  let roll := closedRoll s z
  let occ := closeOccupancy s.params roll z
  let e := climateError z.setpoint (zoneTemperature (roll.map entryTemperature))
    (effectiveDeadband s.params occ.1 s.floorMode)
  let prop := proportional s.params e
  let i := integratorNext prop z.integrator (integralIncrement s.params e)
  { z with
    round := nextRound z.round
    lightTarget := lightFor s.params occ.1 s.floorMode z.lightPref
    occupancy := occ.1
    residency := occ.2
    integrator := i
    demand := demandOf prop i
    census := roll.length
    roll := roll
    roundTimer := some (seconds s.params.control) }

/-- The round timer expires (R70, R71). -/
def roundClosed (s : State) : State :=
  match s.zone with
  | none => s
  | some z =>
    if s.role = .headRun ∧ z.roundTimer.isSome = true then queueOrder .control (closedZone s z) s else s

/-- ROUND_CLOSE (R70, R71). -/
def execRoundClose (s : State) : Result := whenOperating roundClosed s

/-- TALLY_RECEIVED (R62 to R65). -/
def execTallyReceived (source : Station) (payload : BitVec 96) (s : State) : Result :=
  whenOperating (receiveFrame source fun nd s => headTally source (tallyOf payload) (hearSource nd s)) s

/-- NUDGE_RECEIVED (R62, R66, R68, R74). -/
def execNudgeReceived (source : Station) (payload : BitVec 56) (s : State) : Result :=
  whenOperating (receiveFrame source fun nd s => headNudge (nudgeOf payload) (hearSource nd s)) s

/-- A PRESET at the Gateway Filter: from a listed gateway it is clamped and handed on (R166, R169). -/
def filterPreset (source : Station) (p : Preset) (s : State) : State :=
  if fromGateway source s then headPreset p.filtered s else s

/-- PRESET_RECEIVED (R166, R169, R68, R75). -/
def execPresetReceived (source : Station) (payload : BitVec 64) (s : State) : Result :=
  whenOperating (receiveFrame source fun nd s => filterPreset source (presetOf payload) (hearSource nd s)) s

/-- A floor mode set: a change forms the local light target anew in ORPHAN and MUTE (R167). -/
def setFloorMode (m : FloorMode) (s : State) : State :=
  if m = s.floorMode then s
  else if s.role.isLocal then formLocalTarget { s with floorMode := m }
  else { s with floorMode := m }

/-- A SCHEDULE at the Gateway Filter: from a listed gateway a valid code sets the floor mode (R166, R167). -/
def filterSchedule (source : Station) (code : BitVec 8) (s : State) : State :=
  if fromGateway source s then
    match FloorMode.ofCode code with
    | none => s
    | some m => setFloorMode m s
  else s

/-- SCHEDULE_RECEIVED (R166, R167). -/
def execScheduleReceived (source : Station) (payload : BitVec 8) (s : State) : Result :=
  whenOperating (receiveFrame source fun nd s => filterSchedule source payload (hearSource nd s)) s

/-- The residency timer has reached the minimum residency (R108). -/
def residencyReached (s : State) : State :=
  match s.zone with
  | none => s
  | some z =>
    match z.residency with
    | .counting _ => { s with zone := some { z with residency := .met } }
    | .stopped => s
    | .met => s

/-- RESIDENCY_MET (R108). -/
def execResidencyMet (s : State) : Result := whenOperating residencyReached s

end Sys2Proof.Machine
end

