-- ==== Sys2Proof/Machine/Dispatch.lean ====
section
/-! DEFINITION. The meaning of each command, one arm per row of the table. -/

namespace Sys2Proof.Machine

/-- The effect of a command on everything but the queue. -/
def exec (i : Instr) (s : State) : Host.Outcome State Fault Refusal :=
  match i with
  | .powerOnReset inputs => Sys2Proof.Machine.execPowerOnReset inputs s
  | .rawInputChange d level => Sys2Proof.Machine.execRawInputChange d level s
  | .settleExpiry d => Sys2Proof.Machine.execSettleExpiry d s
  | .burstTimerExpiry => Sys2Proof.Machine.execBurstTimerExpiry s
  | .decayExpiry => Sys2Proof.Machine.execDecayExpiry s
  | .silenceTimerExpiry d => Sys2Proof.Machine.execSilenceTimerExpiry d s
  | .markReceived source payload => Sys2Proof.Machine.execMarkReceived source payload s
  | .quietExpiry => Sys2Proof.Machine.execQuietExpiry s
  | .gatherEnd => Sys2Proof.Machine.execGatherEnd s
  | .roundClose => Sys2Proof.Machine.execRoundClose s
  | .tallyReceived source payload => Sys2Proof.Machine.execTallyReceived source payload s
  | .nudgeReceived source payload => Sys2Proof.Machine.execNudgeReceived source payload s
  | .presetReceived source payload => Sys2Proof.Machine.execPresetReceived source payload s
  | .scheduleReceived source payload => Sys2Proof.Machine.execScheduleReceived source payload s
  | .orderReceived source payload => Sys2Proof.Machine.execOrderReceived source payload s
  | .unknownKindFrame source kind length => Sys2Proof.Machine.execUnknownKindFrame source kind length s
  | .duplicateInAttempt => Sys2Proof.Machine.execDuplicateInAttempt s
  | .orderTimeout => Sys2Proof.Machine.execOrderTimeout s
  | .localRound => Sys2Proof.Machine.execLocalRound s
  | .occupancyAssertion => Sys2Proof.Machine.execOccupancyAssertion s
  | .occupancyRelease => Sys2Proof.Machine.execOccupancyRelease s
  | .holdTimerExpiry => Sys2Proof.Machine.execHoldTimerExpiry s
  | .residencyMet => Sys2Proof.Machine.execResidencyMet s
  | .fadeStep => Sys2Proof.Machine.execFadeStep s
  | .sensorRead result => Sys2Proof.Machine.execSensorRead result s
  | .keyPress key => Sys2Proof.Machine.execKeyPress key s
  | .attemptStart => Sys2Proof.Machine.execAttemptStart s
  | .arbitrationLoss => Sys2Proof.Machine.execArbitrationLoss s
  | .acknowledged => Sys2Proof.Machine.execAcknowledged s
  | .unacknowledged => Sys2Proof.Machine.execUnacknowledged s
  | .backoffEnd => Sys2Proof.Machine.execBackoffEnd s
  | .lineIdle => Sys2Proof.Machine.execLineIdle s
  | .lostStep => Sys2Proof.Machine.execLostStep s
  | .resynchronisationSilence => Sys2Proof.Machine.execResynchronisationSilence s
  | .promotion slot => Sys2Proof.Machine.execPromotion slot s
  | .beaconExpiry => Sys2Proof.Machine.execBeaconExpiry s
  | .readRecord data => Sys2Proof.Machine.execReadRecord data s
  | .writeRecord data => Sys2Proof.Machine.execWriteRecord data s
  | .writeComplete => Sys2Proof.Machine.execWriteComplete s
  | .driveOutputs data => Sys2Proof.Machine.execDriveOutputs data s
  | .unknownCommand code data => Sys2Proof.Machine.execUnknownCommand code data s
  | .messageIncomplete bytes => Sys2Proof.Machine.execMessageIncomplete bytes s
  | .startBit => Sys2Proof.Machine.execStartBit s
  | .replySent => Sys2Proof.Machine.execReplySent s
  | .resetStart => Sys2Proof.Machine.execResetStart s

end Sys2Proof.Machine
end

