-- ==== Sys2Proof/Machine/Step.lean ====
section
/-! DEFINITION. One step: the command at the front of the queue, or, on an empty queue, the cell's own clock. -/

namespace Sys2Proof.Machine

/-- On an empty queue the clock runs a due event, or one bit time passes (log 2). -/
def idleStep (s : State) : Host.Outcome State Fault Refusal :=
  match clockChoice s with
  | none => .next (advance s)
  | some (c, t) => exec c t

/-- One step of the block. -/
def step (s : State) : Host.Outcome State Fault Refusal :=
  match s.pending with
  | c :: rest => exec c { s with pending := rest }
  | [] => idleStep s

/-- The state with the command a word spells at the front of its queue; unchanged where the word spells none. -/
def State.withFetchWord (s : State) (nbits w : Nat) : State :=
  match decodeTableWord nbits w with
  | some c => { s with pending := c :: s.pending }
  | none => s

end Sys2Proof.Machine
end

