-- ==== Sys2Proof/Safety.lean ====
section
/-! DEFINITION. What a sound state of the block is: the invariants the rules state in words ("is never", "exactly when", "at most",
"always"), each a decidable property of one state. The statements speak of them. -/

namespace Sys2Proof.Machine

/-- `x` lies in `lo..hi`. -/
abbrev Within (lo hi x : Int) : Prop := lo ≤ x ∧ x ≤ hi

/-- The ranges of the loaded counts and rates that the rules lean on (R173). -/
abbrev Params.countsInRange (p : Params) : Prop :=
  1 ≤ p.churnThreshold ∧ p.churnThreshold ≤ p.churnDepth ∧ p.churnDepth ≤ 15 ∧ 10 ≤ p.fadeRate ∧ p.fadeRate ≤ 1000
  ∧ 10 ≤ p.control ∧ p.control ≤ 120 ∧ p.gateways.length ≤ 2

/-- The ranges of the loaded gains and bands (R173). -/
abbrev Params.gainsInRange (p : Params) : Prop :=
  Within 0 100 p.kp ∧ Within 0 50 p.ki ∧ Within 0 10 p.deadband ∧ Within 0 50 p.setback

/-- The ranges of the loaded preferences, light levels and flows (R173). -/
abbrev Params.levelsInRange (p : Params) : Prop :=
  Within 120 300 p.tempPref ∧ Within 100 1000 p.lightPref ∧ Within 0 1000 p.standby
  ∧ 0 ≤ p.minFlow ∧ p.minFlow ≤ p.heatFlow ∧ p.heatFlow ≤ p.maxFlow ∧ p.maxFlow ≤ 1000

/-- The ranges of the other loaded times (R173). -/
abbrev Params.timesInRange (p : Params) : Prop :=
  5 ≤ p.settle ∧ p.settle ≤ 120 ∧ 2 ≤ p.quiet ∧ p.quiet ≤ 30 ∧ 2 ≤ p.gather ∧ p.gather ≤ 20 ∧ 10 ≤ p.burst ∧ p.burst ≤ 600
  ∧ 1 ≤ p.churnDecay ∧ p.churnDecay ≤ 60 ∧ 1 ≤ p.occupancyHold ∧ p.occupancyHold ≤ 60 ∧ p.minResidency ≤ 30

/-- The ranges of all loaded parameters (R173). -/
abbrev Params.inRange (p : Params) : Prop := p.countsInRange ∧ p.timesInRange ∧ p.gainsInRange ∧ p.levelsInRange

/-- The ranges of an ORDER's control values (R59, R120). -/
abbrev Order.inRange (o : Order) : Prop :=
  Within 120 300 o.setpoint ∧ Within 100 1000 o.lightPref ∧ Within 0 1000 o.lightTarget ∧ Within (-1000) 1000 o.demand

/-- The ranges of a roll entry (R63). -/
abbrev Entry.inRange (e : Entry) : Prop :=
  Within 120 300 e.tempPref ∧ Within 100 1000 e.lightPref ∧ Within (-1000) 1000 e.lastDemand
  ∧ ∀ t ∈ e.temperature, Within (-100) 600 t

/-- The ranges of a pending preset (R169). -/
abbrev PendingPreset.inRange (p : PendingPreset) : Prop :=
  (∀ x ∈ p.setpoint, Within 120 300 x) ∧ ∀ x ∈ p.lightPref, Within 100 1000 x

/-- The ranges of a zone record, its census, its pending preset and adjust and its roll (4.1, R59). -/
abbrev Zone.inRange (z : Zone) : Prop :=
  Within 120 300 z.setpoint ∧ Within 100 1000 z.lightPref ∧ Within 0 1000 z.lightTarget
  ∧ Within (-1000) 1000 z.integrator ∧ Within (-1000) 1000 z.demand ∧ 1 ≤ z.census ∧ z.census ≤ 250
  ∧ Within (-50) 50 z.adjust.temp ∧ Within (-500) 500 z.adjust.light
  ∧ z.preset.inRange ∧ ∀ e ∈ z.roll, e.inRange

/-- The ranges of a cell's demand, integrator, pending nudge, temperature, outputs and last accepted ORDER (7.1, R120, R128, R130,
R133). -/
abbrev Cell.inRange (c : Cell) : Prop :=
  Within (-1000) 1000 c.lastDemand ∧ Within (-1000) 1000 c.localIntegrator
  ∧ Within (-50) 50 c.nudge.temp ∧ Within (-500) 500 c.nudge.light ∧ (∀ t ∈ c.temperature, Within (-100) 600 t)
  ∧ Within 0 1000 c.damper ∧ Within 0 1000 c.reheat ∧ ∀ o ∈ c.lastOrder, o.inRange

/-- The loaded parameters and the preferences lie in their ranges in operation (7.1, R173). -/
abbrev State.loadedInRange (s : State) : Prop :=
  s.role.operating = true → s.params.inRange ∧ Within 120 300 s.cell.tempPref ∧ Within 100 1000 s.cell.lightPref

/-- Every value of the cell and of its light lies in its range (7.1, R116). -/
abbrev State.cellInRange (s : State) : Prop :=
  s.cell.inRange ∧ Within 0 1000 s.light.target ∧ Within 0 1000 s.light.output

/-- Every value of the zone record and its roll lies in its range (4.1, R59, R63). -/
abbrev State.zoneInRange (s : State) : Prop := ∀ z ∈ s.zone, z.inRange

/-- The loaded parameters and preferences, the cell, its light and its zone record lie in their ranges. -/
abbrev State.inRange (s : State) : Prop := s.loadedInRange ∧ s.cellInRange ∧ s.zoneInRange

/-- The damper and reheat commands are the mapping of the last demand in every operating state (R129). -/
abbrev State.outputsMapped (s : State) : Prop :=
  s.role.operating = true → s.cell.damper = damperFor s.params s.cell.lastDemand ∧ s.cell.reheat = reheatFor s.cell.lastDemand

/-- A cell's hops is 0 exactly when its root is its own number, and never more than 249 (R33). -/
abbrev State.labelSound (s : State) : Prop :=
  s.role.operating = true → (s.label.hops = 0 ↔ s.label.root = s.params.own) ∧ s.label.hops ≤ 249

/-- Every effective state is the one that R15 gives. -/
abbrev State.effectiveSound (s : State) : Prop :=
  effectiveNow s.edges.north = s.edges.north.effective ∧ effectiveNow s.edges.east = s.edges.east.effective
  ∧ effectiveNow s.edges.south = s.edges.south.effective ∧ effectiveNow s.edges.west = s.edges.west.effective

/-- The lock flag is clear in SERVICE and set in every other state (R174). -/
abbrev State.lockSound (s : State) : Prop := s.store.lock = false ↔ s.role = .service

/-- The churn count lies in 0..churn depth, the decay timer runs while it is above 0, and HOLD is set while it is at or above
the threshold (2.1, R24). -/
abbrev State.churnSound (s : State) : Prop :=
  s.role.operating = true →
    s.params.churnThreshold ≤ s.params.churnDepth ∧ 1 ≤ s.params.churnThreshold ∧ s.churn.count ≤ s.params.churnDepth
    ∧ (s.churn.decay.isSome = true ↔ 0 < s.churn.count)
    ∧ (s.churn.hold = true ↔ s.params.churnThreshold ≤ s.churn.count)

/-- The quiet timer runs in SETTLING only, the order timer in AWAIT and MEMBER, the local round timer in ORPHAN and MUTE (R48,
R126, 7.1). -/
abbrev State.timersSound (s : State) : Prop :=
  (s.quiet.isSome = true ↔ s.role = .settling)
  ∧ (s.cell.orderTimer.isSome = true ↔ s.role = .await ∨ s.role = .member)
  ∧ (s.cell.localRound.isSome = true ↔ s.role.isLocal = true)

/-- The settle timer of an owned track runs exactly while the raw input differs from the sensed state and that of any other
direction never (1.2, R2); the silence timer runs exactly while the entry is ACTIVE (1.4, R9). -/
abbrev Edge.timersSound (e : Edge) : Prop :=
  (e.settle.isSome = true ↔ e.kind = .trackOwned ∧ trackOf e.raw ≠ e.sensed) ∧ (e.silence.isSome = true ↔ e.status = .active)

/-- The timers of all four directions are sound (1.2, 1.4). -/
abbrev State.edgeTimersSound (s : State) : Prop :=
  s.edges.north.timersSound ∧ s.edges.east.timersSound ∧ s.edges.south.timersSound ∧ s.edges.west.timersSound

/-- The zone record exists in HEAD_GATHER and HEAD_RUN only, belongs to the label of a cell that is its own root, and runs the
timer and holds the round of its role (R59, R71). -/
abbrev State.zoneSound (s : State) : Prop :=
  (s.zone.isSome = true ↔ s.role.isHead = true)
  ∧ ∀ z ∈ s.zone, z.epoch = s.label.epoch ∧ s.label.root = s.params.own
    ∧ (z.gather.isSome = true ↔ s.role = .headGather) ∧ (z.roundTimer.isSome = true ↔ s.role = .headRun)
    ∧ (z.round = 0 ↔ s.role = .headGather)
    ∧ (z.occupancy = .vacant ↔ z.residency = .stopped)

/-- The roll holds at most one entry per cell number (it is kept in rising order), at most 250 entries, at most 249 before the
birth, and in HEAD_RUN the head's own (R61). -/
abbrev State.rollSound (s : State) : Prop :=
  (s.zone.isSome = true ↔ s.role.isHead = true)
  ∧ ∀ z ∈ s.zone, z.roll.Pairwise (fun a b => a.cell.toNat < b.cell.toNat) ∧ z.roll.length ≤ 250
    ∧ (s.role = .headGather → z.roll.length ≤ 249) ∧ (s.role = .headRun → rollHas s.params.own z.roll = true)

/-- A head's Cell Control holds the ORDER its record gives, and in HEAD_RUN its preferences and last demand are the zone's
(R72, R123, R121). -/
abbrev State.headFollows (s : State) : Prop :=
  (s.zone.isSome = true ↔ s.role.isHead = true)
  ∧ ∀ z ∈ s.zone,
    (s.role = .headGather → s.cell.lastOrder = some (zoneOrder s.params.own .call z))
    ∧ (s.role = .headRun → s.cell.lastOrder = some (zoneOrder s.params.own .control z)
        ∧ s.cell.tempPref = z.setpoint ∧ s.cell.lightPref = z.lightPref ∧ s.cell.lastDemand = z.demand)

/-- A MEMBER has accepted an ORDER of its current label, in range (R51, R119, R120). -/
abbrev State.memberFollows (s : State) : Prop :=
  s.role = .member →
    s.cell.lastOrder.isSome = true
    ∧ ∀ o ∈ s.cell.lastOrder, o.epoch = s.label.epoch ∧ o.source = s.label.root ∧ o.inRange

/-- A frame is IN_ATTEMPT. -/
abbrev slotInAttempt {α : Type} (f : Slot α) : Bool := f.any Held.inAttempt

/-- The slot named by the attempt in progress is IN_ATTEMPT and no other; an attempt holds the line BUSY; the MUTE flag is set
in MUTE only, and a cell in MUTE has no attempt (R149, R155, R156). -/
abbrev State.lineSound (s : State) : Prop :=
  slotInAttempt s.slots.order = decide (s.line.attempt.map Attempt.slot = some .order)
  ∧ slotInAttempt s.slots.mark = decide (s.line.attempt.map Attempt.slot = some .mark)
  ∧ slotInAttempt s.slots.nudge = decide (s.line.attempt.map Attempt.slot = some .nudge)
  ∧ slotInAttempt s.slots.tally = decide (s.line.attempt.map Attempt.slot = some .tally)
  ∧ (s.line.attempt.isSome = true → s.line.view = .busy)
  ∧ (s.line.mute = true ↔ s.role = .mute)
  ∧ (s.role = .mute → s.line.attempt = none)

/-- The counts of a held frame lie in their ranges (8.6). -/
abbrev heldInRange {α : Type} (f : Slot α) : Prop := ∀ h ∈ f, h.losses ≤ 8 ∧ h.retries ≤ 3

/-- The counts of every held frame lie in their ranges (8.6). -/
abbrev State.slotsInRange (s : State) : Prop :=
  heldInRange s.slots.order ∧ heldInRange s.slots.mark ∧ heldInRange s.slots.nudge ∧ heldInRange s.slots.tally

/-- The backoff generator never holds zero in operation (R154). -/
abbrev State.generatorSound (s : State) : Prop := s.role.operating = true → s.line.generator ≠ 0

/-- The record a write in progress is storing, if one is. -/
def Port.written : Port → Option (List Byte)
  | .writing d => some d
  | .ready => none
  | .replying _ => none

/-- The store holds 42 bytes; a write in progress has 42 bytes, happens in SERVICE and leaves the written mark clear (R172,
R179). -/
abbrev State.storeSound (s : State) : Prop :=
  s.store.bytes.length = 42
  ∧ ∀ d ∈ s.port.written, d.length = 42 ∧ s.store.written = false ∧ s.role = .service

/-- The hold timer is held while the contact is asserted, and stopped while the cell is unoccupied (6.2). -/
abbrev State.occupancySound (s : State) : Prop :=
  (s.cell.hold = .held ↔ s.cell.contact = true) ∧ (s.cell.hold = .stopped ↔ s.cell.occupied = false)

/-- Presses are pending in SETTLING, AWAIT and MEMBER only, no NUDGE is outstanding in MUTE, and only an outstanding NUDGE is
marked as not to be subtracted, which it is in every head role and in ORPHAN (R135). -/
abbrev State.nudgeSound (s : State) : Prop :=
  ((s.role.isHead = true ∨ s.role.isLocal = true) → s.cell.nudge = ⟨0, 0⟩)
  ∧ (s.role = .mute → s.cell.outstanding = none) ∧ (s.cell.spent = true → s.cell.outstanding.isSome = true)
  ∧ (s.role.isHead = true ∨ s.role = .orphan → s.cell.spent = s.cell.outstanding.isSome)

/-- The temperature is absent exactly while TEMP_FAULT is set, and in range while present (R130). -/
abbrev State.sensorSound (s : State) : Prop :=
  s.role.operating = true →
    (s.cell.temperature = none ↔ s.cell.tempFault = true) ∧ ∀ t ∈ s.cell.temperature, Within (-100) 600 t

end Sys2Proof.Machine
end

