-- ==== Sys2Proof/Certificates/Slice0/Obligations.lean ====
section
/-! DEFINITION. The statements for the provers, chapter by chapter. A command's statement gives the whole next state: what an
equation does not name is unchanged. -/

open Sys2Proof Sys2Proof.Machine

/-! ### The machine -/

/-- A step takes the command at the front of the queue and runs it with the queue's rest. -/
def Obligations.StepRunsTheFrontCommand : Prop :=
  ∀ (c : Instr) (rest : List Instr) (s : State), s.pending = c :: rest → step s = exec c { s with pending := rest }

/-- A second is 62500 bit times of 16 microseconds. On an empty queue the cell's clock lets one bit time pass, runs the one event that is due, or runs one of several: "either
may be taken first" (the model's choice, log 2). An expiry is due exactly when its timer has run out, RESIDENCY_MET when the
residency has counted the minimum residency, FADE_STEP when a fading output has passed one step interval, BACKOFF_END on an IDLE
line with a backoff counted down, and ATTEMPT_START when a frame waits and may begin; nothing else is due. In one bit time every
running timer counts one down and a stopped one stays stopped, a counting residency and the age of every held frame grow by one (an
age before the events that fall due in that bit time: log 31), a backoff counts on an IDLE line only, and while the output fades the phase of its step grows by the fade rate (log 19); nothing else
moves (R103, R108, R116, R144, R153, R159). -/
def Obligations.EmptyQueueRunsTheClock : Prop :=
  (∀ n, seconds n = n * 62500 ∧ minutes n = n * 3750000)
  ∧ ∀ s : State,
    let count := fun t : Timer => t.map fun n => n - 1
    let rate := if s.role.operating = true then s.params.fadeRate else if s.role = .uncommissioned then 100 else 0
    (s.pending = [] →
      (dueCommands s = [] → step s = .next (advance s))
      ∧ (∀ c, dueCommands s = [c] → step s = exec c s)
      ∧ (2 ≤ (dueCommands s).length → ∃ c ∈ dueCommands s, step s = exec c { s with ties := s.ties + 1 }))
    ∧ (∀ c, c ∈ dueCommands s ↔
        (∃ d, c = .settleExpiry d ∧ (edgeAt s d).settle = some 0)
        ∨ (∃ d, c = .silenceTimerExpiry d ∧ (edgeAt s d).silence = some 0)
        ∨ c = .burstTimerExpiry ∧ s.churn.burst = some 0
        ∨ c = .decayExpiry ∧ s.churn.decay = some 0
        ∨ c = .quietExpiry ∧ s.quiet = some 0
        ∨ c = .gatherEnd ∧ (∃ z, s.zone = some z ∧ z.gather = some 0)
        ∨ c = .roundClose ∧ (∃ z, s.zone = some z ∧ z.roundTimer = some 0)
        ∨ c = .residencyMet ∧ (∃ z n, s.zone = some z ∧ z.residency = .counting n ∧ minutes s.params.minResidency ≤ n)
        ∨ c = .orderTimeout ∧ s.cell.orderTimer = some 0
        ∨ c = .localRound ∧ s.cell.localRound = some 0
        ∨ c = .holdTimerExpiry ∧ s.cell.hold = .running 0
        ∨ c = .fadeStep ∧ s.light.output ≠ s.light.target ∧ 0 < rate ∧ 62500 ≤ s.light.phase
        ∨ c = .beaconExpiry ∧ s.line.beacon = some 0
        ∨ c = .backoffEnd ∧ s.line.view = .idle ∧ s.line.backoff = some 0
        ∨ c = .attemptStart ∧ s.role.operating = true ∧ s.line.view = .idle ∧ s.line.backoff = none ∧ s.line.mute = false
          ∧ selectSlot s.slots ≠ none)
    ∧ (advance s = { s with
        edges := (advance s).edges
        churn := { s.churn with burst := count s.churn.burst, decay := count s.churn.decay }
        quiet := count s.quiet
        zone := s.zone.map fun z => { z with
          gather := count z.gather
          roundTimer := count z.roundTimer
          residency := match z.residency with
            | .counting n => .counting (n + 1)
            | .stopped => .stopped
            | .met => .met }
        cell := { s.cell with
          localRound := count s.cell.localRound
          orderTimer := count s.cell.orderTimer
          hold := match s.cell.hold with
            | .running n => .running (n - 1)
            | .held => .held
            | .stopped => .stopped }
        light := if s.light.output = s.light.target then s.light
          else { s.light with phase := s.light.phase + rate }
        slots :=
          { order := s.slots.order.map fun f => { f with age := f.age + 1 }
            mark := s.slots.mark.map fun f => { f with age := f.age + 1 }
            nudge := s.slots.nudge.map fun f => { f with age := f.age + 1 }
            tally := s.slots.tally.map fun f => { f with age := f.age + 1 } }
        line := { s.line with
          beacon := count s.line.beacon
          backoff := if s.line.view = .idle then count s.line.backoff else s.line.backoff } }
      ∧ ∀ d, edgeAt (advance s) d = { edgeAt s d with
          settle := count (edgeAt s d).settle, silence := count (edgeAt s d).silence })

/-- No command ever faults, is refused, or touches the queue of waiting commands (the model's reading that an event which cannot
reach the cell changes nothing, log 5); only a SETTLE_EXPIRY that meets a decay expiry decides a tie of its own (R30; log 2). -/
def Obligations.EveryCommandLeavesTheQueue : Prop :=
  ∀ (c : Instr) (s : State), ∃ t, exec c s = .next t ∧ t.pending = s.pending
    ∧ (t.ties = s.ties
        ∨ t.ties = s.ties + 1 ∧ (∃ d, c = .settleExpiry d) ∧ s.churn.burst = none ∧ s.churn.decay = some 0)

/-- MUTE is left by a reset only, and while it lasts no frame leaves a slot, no attempt begins, no acknowledgement slot is driven,
no backoff is drawn and UNHEARD keeps its value (R54, R149, R150). -/
def Obligations.MuteLastsUntilReset : Prop :=
  ∀ (c : Instr) (s t : State), s.role = .mute → s.lineSound → exec c s = .next t →
    c ≠ .resetStart → (∀ i, c ≠ .powerOnReset i) →
    t.role = .mute ∧ t.line.mute = true ∧ t.line.attempt = none ∧ t.line.generator = s.line.generator
    ∧ t.line.unheard = s.line.unheard
    ∧ (t.line.ackDriven = true → s.line.ackDriven = true)
    ∧ (s.line.view ≠ .resync →
        (∃ source p, c = .markReceived source p) ∨ (∃ source p, c = .tallyReceived source p)
          ∨ (∃ source p, c = .orderReceived source p) ∨ (∃ source p, c = .nudgeReceived source p)
          ∨ (∃ source p, c = .presetReceived source p) ∨ (∃ source p, c = .scheduleReceived source p)
          ∨ (∃ source k n, c = .unknownKindFrame source k n) →
        t.line.ackDriven = false)
    ∧ (s.slots.order.isSome = true → t.slots.order.isSome = true)
    ∧ (s.slots.mark.isSome = true → t.slots.mark.isSome = true)
    ∧ (s.slots.nudge.isSome = true → t.slots.nudge.isSome = true)
    ∧ (s.slots.tally.isSome = true → t.slots.tally.isSome = true)

/-- Seven roles are operating ones, HEAD_GATHER and HEAD_RUN the head roles among them and ORPHAN and MUTE those in local control.
In UNCOMMISSIONED, in SERVICE and while a reset lasts, nothing but a reset, the service port and, in UNCOMMISSIONED, the fade
changes anything (R17, R20, R58, R83, R102, R165, R175, R176, R177; the role during a reset is log 29). -/
def Obligations.BlocksRestOutsideOperation : Prop :=
  (∀ r : Role, (r.operating = false ↔ r = .uncommissioned ∨ r = .service ∨ r = .inReset)
    ∧ (r.isHead = true ↔ r = .headGather ∨ r = .headRun) ∧ (r.isLocal = true ↔ r = .orphan ∨ r = .mute))
  ∧ ∀ (c : Instr) (s : State), s.role.operating = false →
    c ≠ .resetStart → (∀ i, c ≠ .powerOnReset i) →
    (∀ x, c ≠ .readRecord x) → (∀ x, c ≠ .writeRecord x) → (∀ x, c ≠ .driveOutputs x) →
    (∀ k x, c ≠ .unknownCommand k x) → (∀ x, c ≠ .messageIncomplete x) → c ≠ .writeComplete → c ≠ .replySent →
    (c = .fadeStep → s.role ≠ .uncommissioned) →
    exec c s = .next s

/-- The stored bytes change at WRITE_COMPLETE only (the model's choice, log 16), and the written mark there and at an accepted
WRITE_RECORD only, so that both outlive every reset; the parameters, the edge kinds and the neighbour numbers are kept until the
next reset (R1, R172, R173, R179). -/
def Obligations.RecordAndParametersAreKept : Prop :=
  ∀ (c : Instr) (s t : State), exec c s = .next t →
    (c ≠ .writeComplete →
      t.store.bytes = s.store.bytes
      ∧ (t.store.written = s.store.written
          ∨ ∃ data, c = .writeRecord data ∧ recordCheck data = true ∧ t.store.written = false))
    ∧ (c ≠ .resetStart → (∀ i, c ≠ .powerOnReset i) →
      t.params = s.params
      ∧ ∀ d, (edgeAt t d).kind = (edgeAt s d).kind ∧ (edgeAt t d).neighbour = (edgeAt s d).neighbour)

/-! ### Invariants: every step keeps them, from every state that meets them -/

/-- Every value stays in its range: all loaded parameters and the cell's own preferences in operation; the cell's temperature,
demand, integrator, pending nudge and damper and reheat commands; the light target and output; the last accepted ORDER; and the
zone record with its census, its pending preset and adjust and every entry of its roll. The census counts the roll, whose bounds
StepKeepsZoneAndRoll keeps (R59, R61, R63, R71, R116, R120, R128, R130, R133, R169, R173). -/
def Obligations.StepKeepsRanges : Prop := ∀ s t : State, s.inRange → s.rollSound → step s = .next t → t.inRange

/-- The damper and reheat commands stay the mapping of the last demand in every state whose lock flag agrees with its role, which
StepKeepsStoreLocked keeps: with the lock set no DRIVE_OUTPUTS acts (R129, R174). -/
def Obligations.StepKeepsOutputsMapped : Prop :=
  ∀ s t : State, s.outputsMapped → s.lockSound → step s = .next t → t.outputsMapped

/-- The hops stay 0 exactly when the root is the own number and never exceed 249, and every effective state stays the one that
liveness, own view and stored advert give (R15, R16, R33). -/
def Obligations.StepKeepsLabelAndEffectiveStates : Prop :=
  ∀ s t : State, s.labelSound → s.effectiveSound → step s = .next t → t.labelSound ∧ t.effectiveSound

/-- The churn count stays within the churn depth, the decay timer runs exactly while it is above 0, and HOLD is set exactly while
it is at or above the threshold (R21, R24, R27, R29). -/
def Obligations.StepKeepsChurnSound : Prop := ∀ s t : State, s.churnSound → step s = .next t → t.churnSound

/-- The quiet timer runs exactly in SETTLING, the order timer exactly in AWAIT and MEMBER, the local round timer exactly in ORPHAN
and MUTE; the settle timer of an owned track exactly while its raw level differs from its sensed state, and of any other direction
never; the silence timer exactly while the entry is ACTIVE (R2, R8, R9, R48, R98, R126). -/
def Obligations.StepKeepsTimersSound : Prop :=
  ∀ s t : State, s.timersSound → s.edgeTimersSound → step s = .next t → t.timersSound ∧ t.edgeTimersSound

/-- The zone record exists exactly in the two head roles, belongs to the cell's own label, and its member roll has one entry per
cell number, at most 250, with the head's own in HEAD_RUN (R59, R61, R71, R81, R108; the rising order in which the roll is kept is
the model's choice, log 20). -/
def Obligations.StepKeepsZoneAndRoll : Prop :=
  ∀ s t : State, s.zoneSound → s.rollSound → step s = .next t → t.zoneSound ∧ t.rollSound

/-- A head's own Cell Control follows its zone record, and a MEMBER has accepted an ORDER of its present label (R72, R119, R121,
R123). -/
def Obligations.StepKeepsHeadAndMemberOrders : Prop :=
  ∀ s t : State, s.headFollows → s.memberFollows → step s = .next t → t.headFollows ∧ t.memberFollows

/-- Exactly the slot of the attempt in progress is IN_ATTEMPT, the counts stay in their ranges, the MUTE flag marks MUTE, and the
backoff generator never holds zero (R149, R154, R155, R156, R160). -/
def Obligations.StepKeepsLineSound : Prop :=
  ∀ s t : State, s.lineSound → s.slotsInRange → s.generatorSound → step s = .next t →
    t.lineSound ∧ t.slotsInRange ∧ t.generatorSound

/-- The lock flag is clear in SERVICE only, the store holds 42 bytes, and a write in progress happens in SERVICE under a clear
written mark (R174, R179). -/
def Obligations.StepKeepsStoreLocked : Prop :=
  ∀ s t : State, s.lockSound → s.storeSound → step s = .next t → t.lockSound ∧ t.storeSound

/-- The hold timer agrees with the contact and the occupancy, presses are pending in SETTLING, AWAIT and MEMBER only, a NUDGE
outstanding in a head role or in ORPHAN is marked as not to be subtracted and none is outstanding in MUTE, and the temperature is
absent exactly under TEMP_FAULT (R103, R104, R130, R135; the mark is log 25). -/
def Obligations.StepKeepsCellSound : Prop :=
  ∀ s t : State, s.occupancySound → s.nudgeSound → s.sensorSound → step s = .next t →
    t.occupancySound ∧ t.nudgeSound ∧ t.sensorSound

/-- The state after reset meets every invariant above (R19, R32, R58, R83, R102, R117, R141, R165, R174). -/
def Obligations.ResetMeetsTheInvariants : Prop :=
  State.reset.inRange ∧ State.reset.outputsMapped ∧ State.reset.labelSound ∧ State.reset.effectiveSound
  ∧ State.reset.churnSound ∧ State.reset.timersSound ∧ State.reset.edgeTimersSound ∧ State.reset.zoneSound ∧ State.reset.rollSound
  ∧ State.reset.headFollows ∧ State.reset.memberFollows ∧ State.reset.lineSound ∧ State.reset.slotsInRange
  ∧ State.reset.generatorSound ∧ State.reset.lockSound ∧ State.reset.storeSound ∧ State.reset.occupancySound
  ∧ State.reset.nudgeSound ∧ State.reset.sensorSound

/-! ### Payloads: what is sent is what is read (8.10) -/

/-- A receiver reads back the epoch, root, hops and facing view of a MARK; every field stands in its place, the views as 0 CLOSED,
1 OPEN and 2 NONE, the six roles that send a MARK as 0 SETTLING to 5 HEAD_RUN, every reserved bit as 0; and of the view of the facing
edge a receiver reads any other code as CLOSED (R1, R57, R163, 8.10; the code 7 of the roles that send no MARK is log 23). -/
def Obligations.MarkPayloadReadsBack : Prop :=
  (∀ (p : BitVec 64) (d : Dir),
    let code := p.extractLsb' (match d with | .south => 22 | .west => 20 | .north => 18 | .east => 16) 2
    ((markAdvert d p).facing = .opened ↔ code = 1) ∧ ((markAdvert d p).facing = .noView ↔ code = 2))
  ∧ ∀ (m : Mark) (d : Dir), m.hops ≤ 255 → m.churn ≤ 15 →
    let viewCode : View → BitVec 2 := fun v => match v with | .closed => 0 | .opened => 1 | .noView => 2
    let role := (markPayload m).extractLsb' 12 3
    markAdvert d (markPayload m)
      = { epoch := m.epoch, root := m.root, hops := min 249 m.hops, facing := atDir m.views (facingDir d) }
    ∧ (markPayload m).extractLsb' 48 12 = m.epoch ∧ (markPayload m).extractLsb' 32 12 = m.root
    ∧ ((markPayload m).extractLsb' 24 8).toNat = m.hops
    ∧ (markPayload m).extractLsb' 22 2 = viewCode m.views.north ∧ (markPayload m).extractLsb' 20 2 = viewCode m.views.east
    ∧ (markPayload m).extractLsb' 18 2 = viewCode m.views.south ∧ (markPayload m).extractLsb' 16 2 = viewCode m.views.west
    ∧ role = m.role.code
    ∧ (m.role = .settling → role = 0) ∧ (m.role = .await → role = 1) ∧ (m.role = .member → role = 2)
    ∧ (m.role = .orphan → role = 3) ∧ (m.role = .headGather → role = 4) ∧ (m.role = .headRun → role = 5)
    ∧ ((markPayload m).extractLsb' 8 4).toNat = m.churn
    ∧ (markPayload m).getLsbD 0 = m.hold ∧ (markPayload m).getLsbD 1 = m.tempFault
    ∧ (markPayload m).getLsbD 2 = m.mismatch ∧ (markPayload m).getLsbD 3 = m.unheard
    ∧ (markPayload m).extractLsb' 60 4 = 0 ∧ (markPayload m).extractLsb' 44 4 = 0
    ∧ (markPayload m).getLsbD 15 = false ∧ (markPayload m).extractLsb' 4 4 = 0

/-- A head reads every field of a TALLY and of a NUDGE in its place and reads back what was sent, and the reserved bits are sent
as 0 (R63, R66, R125, R134, R163, 8.10). -/
def Obligations.TallyAndNudgePayloadsReadBack : Prop :=
  (∀ t : Tally, (∀ x ∈ t.temperature, Within (-100) 600 x) → Within 0 4095 t.tempPref → Within 0 4095 t.lightPref →
    Within (-32768) 32767 t.lastDemand → tallyOf (tallyPayload t) = t)
  ∧ (∀ p : BitVec 96,
    let t := tallyOf p
    t.unheard = p.getLsbD 95 ∧ t.mismatch = p.getLsbD 94 ∧ t.hold = p.getLsbD 93 ∧ t.tempFault = p.getLsbD 92
    ∧ t.epoch = p.extractLsb' 80 12 ∧ t.occupied = p.getLsbD 79 ∧ t.addressee = p.extractLsb' 64 12
    ∧ t.round = p.extractLsb' 56 8
    ∧ (p.extractLsb' 40 16 = 0x8000#16 → t.temperature = none)
    ∧ (p.extractLsb' 40 16 ≠ 0x8000#16 → t.temperature = some (p.extractLsb' 40 16).toInt)
    ∧ t.tempPref = (p.extractLsb' 28 12).toNat ∧ t.lightPref = (p.extractLsb' 16 12).toNat
    ∧ t.lastDemand = (p.extractLsb' 0 16).toInt)
  ∧ (∀ p : BitVec 56,
    let n := nudgeOf p
    n.epoch = p.extractLsb' 40 12 ∧ n.addressee = p.extractLsb' 24 12
    ∧ n.deltas.temp = (p.extractLsb' 16 8).toInt ∧ n.deltas.light = (p.extractLsb' 0 16).toInt)
  ∧ (∀ t : Tally, (tallyPayload t).extractLsb' 76 3 = 0)
  ∧ (∀ n : Nudge, (nudgePayload n).extractLsb' 52 4 = 0 ∧ (nudgePayload n).extractLsb' 36 4 = 0)
  ∧ ∀ n : Nudge, Within (-128) 127 n.deltas.temp → Within (-32768) 32767 n.deltas.light → nudgeOf (nudgePayload n) = n

/-- A cell reads every field of an ORDER in its place and reads back what was sent, with the source of its header, and the reserved
bits are sent as 0 (R72, R163, 8.10). -/
def Obligations.OrderPayloadReadsBack : Prop :=
  (∀ (source : Station) (p : BitVec 96),
    let o := orderOf source p
    o.source = source ∧ (o.kind = .control ↔ p.getLsbD 95 = true) ∧ (o.occupancy = .occupied ↔ p.getLsbD 94 = true)
    ∧ o.epoch = p.extractLsb' 80 12 ∧ o.round = p.extractLsb' 72 8 ∧ o.census = (p.extractLsb' 64 8).toNat
    ∧ o.setpoint = (p.extractLsb' 48 16).toNat ∧ o.lightPref = (p.extractLsb' 32 16).toNat
    ∧ o.lightTarget = (p.extractLsb' 16 16).toNat ∧ o.demand = (p.extractLsb' 0 16).toInt)
  ∧ (∀ o : Order, (orderPayload o).extractLsb' 92 2 = 0)
  ∧ ∀ o : Order, o.census ≤ 255 → Within 0 65535 o.setpoint → Within 0 65535 o.lightPref → Within 0 65535 o.lightTarget →
    Within (-32768) 32767 o.demand → orderOf o.source (orderPayload o) = o

/-! ### Arithmetic and orders -/

/-- A clamp takes a value below its range to the lower limit and one above to the upper; setpoints clamp to 120..300, light
preferences to 100..1000, demands to -1000..1000. Half up gives the nearest integer with exact halves going up, half away from zero is half up of the magnitude with the sign
kept. The zone temperature is the sum of the present temperatures over their number, rounded half away from zero, in -100..600 when
every present one is, and absent exactly when none is present; a mean preference is the sum over the number rounded half up, the mean last
demand the sum over the number rounded half away from zero, and either stays within the bounds of its values (00_scope.md "Rounding"; R86, R87, R91). -/
def Obligations.RoundingAndMeans : Prop :=
  (∀ x : Int, (∀ lo hi : Int, lo ≤ hi → (x < lo → clamp lo hi x = lo) ∧ (hi < x → clamp lo hi x = hi)
      ∧ (Within lo hi x → clamp lo hi x = x))
    ∧ clampSetpoint x = clamp 120 300 x ∧ clampLightPref x = clamp 100 1000 x ∧ clampDemand x = clamp (-1000) 1000 x)
  ∧ (∀ (num : Int) (den : Nat), 0 < den →
    2 * (den * roundHalfUp num den) ≤ 2 * num + den ∧ 2 * num < 2 * (den * roundHalfUp num den) + den
    ∧ (0 ≤ num → roundHalfAway num den = roundHalfUp num den)
    ∧ roundHalfAway (-num) den = -(roundHalfAway num den))
  ∧ (∀ temps : List (Option Int), (∀ x, some x ∈ temps → Within (-100) 600 x) →
    ((zoneTemperature temps = none ↔ ∀ x, some x ∉ temps) ∧ ∀ z ∈ zoneTemperature temps, Within (-100) 600 z))
  ∧ (∀ temps : List (Option Int),
    let present := temps.filterMap fun t => t
    present ≠ [] → zoneTemperature temps = some (roundHalfAway present.sum present.length))
  ∧ (∀ values : List Int, meanPreference values = roundHalfUp values.sum values.length
    ∧ meanDemand values = roundHalfAway values.sum values.length)
  ∧ ∀ (lo hi : Int) (values : List Int), values ≠ [] → (∀ x ∈ values, Within lo hi x) →
    Within lo hi (meanPreference values) ∧ Within lo hi (meanDemand values)

/-- Stages 3 to 6: the effective deadband by its table; the error 0 at or inside the deadband and the clamped difference beyond it,
within 200; P in its range; the increment a tenth of ki times e with its fraction dropped; the seed of a birth M - P clamped, and
the increment form, which skips an increment that drives a sum beyond full output further; the demand P + I clamped; and the first
demand the mean last demand whenever the seed is not clamped (R88 to R94). -/
def Obligations.BirthIsBumpless : Prop :=
  ∀ (p : Params) (setpoint m : Int) (tz : Option Int) (occ : Occupancy) (mode : FloorMode), p.gainsInRange →
    let band := effectiveDeadband p occ mode
    let e := climateError setpoint tz band
    let prop := proportional p e
    let inc := integralIncrement p e
    (band = if occ = .vacant ∧ mode ≠ .day then p.deadband + p.setback else p.deadband) ∧ Within 0 60 band
    ∧ (tz = none → e = 0)
    ∧ (∀ t, tz = some t →
        let diff := clamp (-200) 200 (setpoint - t)
        (Within (-band) band diff → e = 0) ∧ (band < diff ∨ diff < -band → e = diff))
    ∧ Within (-200) 200 e
    ∧ prop = p.kp * e ∧ Within (-20000) 20000 prop
    ∧ inc.natAbs = (p.ki * e).natAbs / 10 ∧ (0 ≤ e → 0 ≤ inc) ∧ (e ≤ 0 → inc ≤ 0) ∧ Within (-1000) 1000 inc
    ∧ integratorSeed m prop = clamp (-1000) 1000 (m - prop) ∧ Within (-1000) 1000 (integratorSeed m prop)
    ∧ (∀ i, Within (-1000) 1000 i →
        let skipped := (1000 < prop + i + inc ∨ prop + i + inc < -1000)
          ∧ (0 < inc ∧ 0 < prop + i ∨ inc < 0 ∧ prop + i < 0)
        Within (-1000) 1000 (integratorNext prop i inc)
        ∧ (skipped → integratorNext prop i inc = i)
        ∧ (¬ skipped → integratorNext prop i inc = clamp (-1000) 1000 (i + inc)))
    ∧ (∀ i, demandOf prop i = clamp (-1000) 1000 (prop + i) ∧ Within (-1000) 1000 (demandOf prop i))
    ∧ (Within (-1000) 1000 m → Within (-1000) 1000 (m - prop) → demandOf prop (integratorSeed m prop) = m)

/-- The damper command at a cooling demand is the minimum flow plus |D| times the flow range over 1000, rounded half up, at no
demand the minimum flow, and at a heating demand the heat flow; the reheat command is the demand while that is positive and else 0.
The damper lies between the minimum and maximum flow and reaches the maximum at full cooling (R128). -/
def Obligations.DamperStaysWithinFlows : Prop :=
  ∀ (p : Params) (d : Int), p.levelsInRange → Within (-1000) 1000 d →
    Within p.minFlow p.maxFlow (damperFor p d) ∧ Within 0 1000 (damperFor p d) ∧ Within 0 1000 (reheatFor d)
    ∧ (d < 0 → damperFor p d = p.minFlow + roundHalfUp (d.natAbs * (p.maxFlow - p.minFlow)) 1000 ∧ reheatFor d = 0)
    ∧ (d = 0 → damperFor p d = p.minFlow ∧ reheatFor d = 0)
    ∧ (0 < d → damperFor p d = p.heatFlow ∧ reheatFor d = d)
    ∧ (d = -1000 → damperFor p d = p.maxFlow)

/-- The epoch order is the table of R35, of two unequal epochs exactly one is newer, and the comparison is not transitive over
wide spreads. -/
def Obligations.EpochOrderIsTheTable : Prop :=
  (newer 1500 0 = true ∧ newer 3000 1500 = true ∧ newer 0 3000 = true)
  ∧ ∀ a b : Epoch,
    (newer a b = true ↔
      1 ≤ (a.toNat + 4096 - b.toNat) % 4096 ∧ (a.toNat + 4096 - b.toNat) % 4096 ≤ 2047
        ∨ (a.toNat + 4096 - b.toNat) % 4096 = 2048 ∧ b.toNat < a.toNat)
    ∧ newer a a = false
    ∧ (a ≠ b → (newer a b = true ↔ newer b a = false))

/-- Of two labels the better one has the smaller root or, at equal roots, the fewer hops. The self candidate is the own number at
0 hops; a neighbour candidate is formed across an OPEN direction whose stored advert carries the epoch, at one hop more, up to 249
hops; the best candidate is a candidate, and no candidate is better than it (00_scope.md "Label order"; R37, R38). -/
def Obligations.BestCandidateIsBest : Prop :=
  (∀ a b : Label, better a b = true ↔ a.root.toNat < b.root.toNat ∨ a.root = b.root ∧ a.hops < b.hops)
  ∧ ∀ (s : State) (epoch : Epoch),
    selfLabel s epoch = { epoch := epoch, root := s.params.own, hops := 0 }
    ∧ (∀ d c, candidate s epoch d = some c ↔
      ∃ a, (edgeAt s d).advert = some a ∧ (edgeAt s d).effective = .opened ∧ a.epoch = epoch ∧ a.hops + 1 ≤ 249
        ∧ c = { epoch := epoch, root := a.root, hops := a.hops + 1 })
    ∧ (bestLabel s epoch = selfLabel s epoch ∨ ∃ d, candidate s epoch d = some (bestLabel s epoch))
    ∧ better (selfLabel s epoch) (bestLabel s epoch) = false
    ∧ ∀ d c, candidate s epoch d = some c → better c (bestLabel s epoch) = false

/-- The internal selection takes a WAITING frame that no other outranks: a lower class, then a greater age, then the earlier slot
in the order ORDER, MARK, NUDGE, TALLY; a frame's class is 0 under the lockout and else its slot's base class less one for each
whole 40 ms (2500 bit times) of age, not below 1 (R155, R156, R159). -/
def Obligations.SelectionTakesTheBestFrame : Prop :=
  (∀ (sl : Slots) (id : SlotId) (cls age : Nat), selectSlot sl = some (id, cls, age) →
    slotRank sl id = some (cls, age)
    ∧ ∀ id' cls' age', slotRank sl id' = some (cls', age') →
      cls < cls' ∨ cls = cls' ∧ (age' < age ∨ age' = age ∧ slotBaseClass id ≤ slotBaseClass id'))
  ∧ (∀ sl : Slots, selectSlot sl = none ↔ ∀ id, slotRank sl id = none)
  ∧ (∀ sl : Slots, slotRank sl .order = waitingRank 2 sl.order ∧ slotRank sl .mark = waitingRank 3 sl.mark
      ∧ slotRank sl .nudge = waitingRank 4 sl.nudge ∧ slotRank sl .tally = waitingRank 5 sl.tally)
  ∧ ∀ (α : Type) (base : Nat) (f : Held α),
    waitingRank base (none : Slot α) = none
    ∧ (f.inAttempt = true → waitingRank base (some f) = none)
    ∧ (f.inAttempt = false → waitingRank base (some f) = some (currentClass base f, f.age))
    ∧ (f.lockout = true → currentClass base f = 0)
    ∧ (f.lockout = false → currentClass base f = max 1 (base - f.age / 2500))

/-! ### Edge Monitor and Churn Monitor -/

/-- RAW_INPUT_CHANGE of an owned track: the settle timer starts with the full settle time, or stops on a return; a change away
from a level that differs from the sensed state is always a return (R2). The input of any other direction is not read (1.2). -/
def Obligations.RawChangeStartsOrStopsTheSettle : Prop :=
  ∀ (d : Dir) (level : Level) (s : State), s.role.operating = true →
    ((edgeAt s d).kind = .trackOwned → level ≠ (edgeAt s d).raw →
      (trackOf level ≠ (edgeAt s d).sensed → exec (.rawInputChange d level) s
        = .next (setEdge d { edgeAt s d with raw := level, settle := some (seconds s.params.settle) } s))
      ∧ (trackOf level = (edgeAt s d).sensed → exec (.rawInputChange d level) s
        = .next (setEdge d { edgeAt s d with raw := level, settle := none } s))
      ∧ (trackOf (edgeAt s d).raw ≠ (edgeAt s d).sensed → trackOf level = (edgeAt s d).sensed))
    ∧ ((edgeAt s d).kind ≠ .trackOwned → exec (.rawInputChange d level) s = .next s)

/-- An active input corresponds to PRESENT and an inactive one to ABSENT. SETTLE_EXPIRY of an owned track, in the order of R3: the sensed state, the applied state outside HOLD, the churn event, and
for an applied change the MARK and the re-evaluated effective state. Where the decay timer has run out at the same moment and the
burst timer is stopped, the churn event is taken at once or after that decay expiry, and nothing says which (R3, R16, R25, R28,
R30; the free value is log 2). -/
def Obligations.SettleExpirySettlesTheTrack : Prop :=
  (trackOf .active = .present ∧ trackOf .inactive = .absent)
  ∧ ∀ (d : Dir) (s : State), s.role.operating = true → (edgeAt s d).kind = .trackOwned →
    (edgeAt s d).settle.isSome = true →
    let e := edgeAt s d
    let e1 := { e with
      settle := none
      sensed := trackOf e.raw
      applied := if s.churn.hold = true then e.applied else trackOf e.raw }
    let settled := setEdge d e1 s
    let applied := fun t : State =>
      if e1.applied = e.applied then t
      else if effectiveNow e1 = e.effective then queueMark t
      else openEpoch (setEdge d { e1 with effective := effectiveNow e1 } (queueMark t))
    (s.churn.burst.isSome = true ∨ s.churn.decay ≠ some 0 →
      exec (.settleExpiry d) s = .next (applied (churnEvent settled)))
    ∧ (s.churn.burst = none → s.churn.decay = some 0 →
      let tied := { settled with ties := s.ties + 1 }
      exec (.settleExpiry d) s = .next (applied (churnEvent tied))
      ∨ ∃ t, exec .decayExpiry tied = .next t ∧ exec (.settleExpiry d) s = .next (applied (churnEvent t)))

/-- A churn event is absorbed while the burst timer runs, and counted otherwise: the count up to the churn depth, both timers
restarted, HOLD set at the threshold (R21, R22). -/
def Obligations.ChurnEventCountedOrAbsorbed : Prop :=
  ∀ s : State,
    (s.churn.burst.isSome = true → churnEvent s = s)
    ∧ (s.churn.burst = none → s.churn.count ≤ s.params.churnDepth →
        churnEvent s = { s with churn := {
          count := min (s.churn.count + 1) s.params.churnDepth
          burst := some (seconds s.params.burst)
          decay := some (minutes s.params.churnDecay)
          hold := s.churn.hold || decide (s.params.churnThreshold ≤ min (s.churn.count + 1) s.params.churnDepth) } })

/-- BURST_TIMER_EXPIRY stops the burst timer; DECAY_EXPIRY takes one off the count, restarts or stops the decay timer, and
releases HOLD when the count falls below the threshold (R23, R24). -/
def Obligations.ChurnTimersExpire : Prop :=
  ∀ s : State, s.role.operating = true →
    exec .burstTimerExpiry s = .next { s with churn := { s.churn with burst := none } }
    ∧ (s.churn.decay.isSome = true →
        let c := s.churn.count - 1
        let s1 := { s with churn := { s.churn with
          count := c
          decay := if c = 0 then none else some (minutes s.params.churnDecay) } }
        (s.churn.hold = true → c < s.params.churnThreshold → exec .decayExpiry s = .next (releaseHold s1))
        ∧ (s.churn.hold = true → s.params.churnThreshold ≤ c → exec .decayExpiry s = .next s1)
        ∧ (s.churn.hold = false → exec .decayExpiry s = .next s1))

/-- The release of HOLD copies the sensed state of every owned track into its applied state, with the effective state re-evaluated
where the copy differs and a MARK queued with the views and the label as they end, and opens one epoch for each direction whose
effective state changed. Outside MUTE such an edge change makes the cell SETTLING with the quiet timer at its full time, no zone
record and the order and local round timers stopped; nothing else moves (R7, R29, R34, R47; the order of copies and edge changes
is log 8, the role in the MARK log 6). -/
def Obligations.ReleaseCopiesEveryOwnedTrack : Prop :=
  ∀ s : State,
    let t := releaseHold s
    let differs := fun d => (edgeAt s d).kind = .trackOwned ∧ (edgeAt s d).sensed ≠ (edgeAt s d).applied
    let changed := allDirs.filter fun d => decide ((edgeAt t d).effective ≠ (edgeAt s d).effective)
    t.churn = { s.churn with hold := false }
    ∧ (∀ d,
        let e1 := { edgeAt s d with applied := (edgeAt s d).sensed }
        (differs d → edgeAt t d = { e1 with effective := effectiveNow e1 })
        ∧ (¬ differs d → edgeAt t d = edgeAt s d))
    ∧ t.label = (openEpoch^[changed.length] { s with edges := t.edges }).label
    ∧ ((∃ d, differs d) → t.slots = { s.slots with mark := handSlot (formMark t) s.slots.mark })
    ∧ ((∀ d, ¬ differs d) → t.slots = s.slots)
    ∧ (changed = [] ∨ s.role = .mute → t.role = s.role ∧ t.quiet = s.quiet ∧ t.zone = s.zone ∧ t.cell = s.cell)
    ∧ (changed ≠ [] → s.role ≠ .mute → t.role = .settling ∧ t.quiet = some (seconds s.params.quiet) ∧ t.zone = none
        ∧ t.cell = { s.cell with orderTimer := none, localRound := none })
    ∧ t.params = s.params ∧ t.light = s.light ∧ t.floorMode = s.floorMode ∧ t.line = s.line ∧ t.store = s.store
    ∧ t.port = s.port ∧ t.ties = s.ties ∧ t.pending = s.pending

/-- SILENCE_TIMER_EXPIRY of an ACTIVE entry: LOST, the timer stopped, the effective state CLOSED, and a new epoch when it was
OPEN (R9, R16, R44). -/
def Obligations.SilenceMakesTheNeighbourLost : Prop :=
  ∀ (d : Dir) (s : State), s.role.operating = true → (edgeAt s d).status = .active →
    (edgeAt s d).silence.isSome = true →
    let e1 := { edgeAt s d with status := .lost, silence := none }
    (e1.effective = .closed → exec (.silenceTimerExpiry d) s = .next (setEdge d e1 s))
    ∧ (e1.effective = .opened →
        exec (.silenceTimerExpiry d) s = .next (openEpoch (setEdge d { e1 with effective := .closed } s)))

/-- MARK_RECEIVED from the neighbour of a direction, in the order of R11: liveness with 20 s of silence allowed, advert, mirror view with its MARK, mismatch,
effective state with its edge change, and the arrival at the Label Unit; with the tables of the mirror view, of the mismatch flag
and of the own view, and the effective state OPEN exactly for an ACTIVE entry whose own view and stored facing view are both OPEN
(R5, R6, R8, R11, R12, R15; one re-evaluation, log 7). -/
def Obligations.NeighbourMarkIsTakenInOrder : Prop :=
  (mirrorOf .opened = .opened ∧ mirrorOf .closed = .closed ∧ mirrorOf .noView = .closed)
  ∧ (∀ facing : View,
    (mismatchOf .wall facing = true ↔ facing = .opened ∨ facing = .noView)
    ∧ (mismatchOf .fixedOpen facing = true ↔ facing = .closed ∨ facing = .noView)
    ∧ (mismatchOf .trackOwned facing = true ↔ facing = .noView) ∧ (mismatchOf .trackMirror facing = true ↔ facing = .noView)
    ∧ mismatchOf .boundary facing = false)
  ∧ (∀ e : Edge,
    (e.kind = .wall → ownView e = .closed) ∧ (e.kind = .fixedOpen → ownView e = .opened)
    ∧ (e.kind = .trackOwned → e.applied = .present → ownView e = .closed)
    ∧ (e.kind = .trackOwned → e.applied = .absent → ownView e = .opened)
    ∧ (e.kind = .trackMirror → e.mirror = .opened → ownView e = .opened)
    ∧ (e.kind = .trackMirror → e.mirror = .closed → ownView e = .closed) ∧ (e.kind = .boundary → ownView e = .noView)
    ∧ (effectiveNow e = .opened ↔
        e.status = .active ∧ ownView e = .opened ∧ ∃ a, e.advert = some a ∧ a.facing = .opened))
  ∧ ∀ (source : Station) (payload : BitVec 64) (d : Dir) (s : State), s.role.operating = true →
    s.line.view ≠ .resync → source ≠ s.params.own → neighbourDir s source = some d →
    let a := markAdvert d payload
    let e := edgeAt s d
    let e1 := { e with
      status := .active
      silence := some 1250000
      advert := some a
      mirror := if e.kind = .trackMirror then mirrorOf a.facing else e.mirror }
    let s0 := setEdge d e1 (acknowledgeFrame s)
    let s1 := if e1.mirror = e.mirror then s0 else queueMark s0
    let e2 := { e1 with mismatch := mismatchOf e.kind a.facing }
    (effectiveNow e2 = e.effective →
      exec (.markReceived source payload) s = .next (markArrival d a (setEdge d e2 s1)))
    ∧ (effectiveNow e2 ≠ e.effective →
      exec (.markReceived source payload) s
        = .next (markArrival d a (openEpoch (setEdge d { e2 with effective := effectiveNow e2 } s1))))

/-- A frame that only refreshes its sender: UNKNOWN_KIND_FRAME from any source, and MARK_RECEIVED from a station that is no
neighbour. A source is the neighbour of a direction when it is that direction's neighbour number; its entry is made ACTIVE with the
full 20 s of silence allowed, and an edge change opens an epoch (R8, R39, R150, R162). -/
def Obligations.UnroutedFrameOnlyRefreshesTheNeighbour : Prop :=
  ∀ (source : Station) (kind : BitVec 3) (length : BitVec 5) (payload : BitVec 64) (s : State),
    s.role.operating = true → s.line.view ≠ .resync → source ≠ s.params.own →
    let s0 := { s with line := { s.line with assembling := false, ackDriven := !s.line.mute } }
    acknowledgeFrame s = s0
    ∧ exec (.unknownKindFrame source kind length) s = .next (hearSource (neighbourDir s source) (acknowledgeFrame s))
    ∧ (∀ d, neighbourDir s source = some d → (edgeAt s d).neighbour = some source)
    ∧ (neighbourDir s source = none ↔ ∀ d, (edgeAt s d).neighbour ≠ some source)
    ∧ (neighbourDir s source = none →
      exec (.unknownKindFrame source kind length) s = .next s0 ∧ exec (.markReceived source payload) s = .next s0)
    ∧ ∀ d, neighbourDir s source = some d →
      let e := edgeAt s d
      let e1 := { e with status := .active, silence := some 1250000 }
      (e.status = .active ∨ effectiveNow e1 = e.effective →
        exec (.unknownKindFrame source kind length) s = .next (setEdge d e1 s0))
      ∧ (e.status ≠ .active → effectiveNow e1 ≠ e.effective →
        exec (.unknownKindFrame source kind length) s
          = .next (openEpoch (setEdge d { e1 with effective := effectiveNow e1 } s0)))

/-! ### Label Unit -/

/-- A MARK carries the label, the four own views, the role, the churn count and the flags as they stand when it is formed, with
MISMATCH while a direction's mismatch flag is set. A label change queues a MARK with the new label and, outside MUTE, restarts the
quiet timer, makes the role SETTLING, which that MARK carries (log 6), discards a zone record and stops the order and local round
timers; opening an epoch is a label change, in every case (log 9), to one past the newest epoch known, at the own number unless a
stored advert already carries it; the newest is taken over the adverts of the ACTIVE and OPEN directions, in the order N, E, S, W
(R13, R34, R36, R45, R50, R57, R81, R126). -/
def Obligations.LabelChangeSettlesTheCell : Prop :=
  ∀ (l : Label) (s : State),
    let flagged := s.edges.north.mismatch || s.edges.east.mismatch || s.edges.south.mismatch || s.edges.west.mismatch
    let marked := fun t : State => { t with slots := { s.slots with mark := handSlot (formMark t) s.slots.mark } }
    formMark s =
      { epoch := s.label.epoch, root := s.label.root, hops := s.label.hops,
        views := ⟨ownView s.edges.north, ownView s.edges.east, ownView s.edges.south, ownView s.edges.west⟩,
        role := s.role, churn := s.churn.count, hold := s.churn.hold, tempFault := s.cell.tempFault, mismatch := flagged,
        unheard := s.line.unheard }
    ∧ queueMark s = marked s
    ∧ (s.role = .mute → labelChange l s = marked { s with label := l })
    ∧ (s.role ≠ .mute → labelChange l s = marked { s with
        label := l
        quiet := some (seconds s.params.quiet)
        role := .settling
        zone := none
        cell := { s.cell with orderTimer := none, localRound := none } })
    ∧ openEpoch s = labelChange (bestLabel s (newestEpoch s + 1)) s
    ∧ ((∀ d, ∀ a ∈ (edgeAt s d).advert, a.epoch ≠ newestEpoch s + 1) →
        (openEpoch s).label = { epoch := newestEpoch s + 1, root := s.params.own, hops := 0 })
    ∧ (let next := fun (m : Epoch) (d : Dir) =>
        match (edgeAt s d).advert with
        | none => m
        | some a =>
          if (edgeAt s d).status = .active ∧ (edgeAt s d).effective = .opened ∧ newer a.epoch m = true then a.epoch else m
      newestEpoch s = next (next (next (next s.label.epoch .north) .east) .south) .west)

/-- A MARK arrival: across a CLOSED direction nothing; across an OPEN one a newer epoch is adopted, an equal one makes a recompute,
an older one is answered with a MARK (R39, R40, R41, R42). -/
def Obligations.MarkArrivalByEpoch : Prop :=
  ∀ (d : Dir) (a : Advert) (s : State),
    ((edgeAt s d).effective = .closed → markArrival d a s = s)
    ∧ ((edgeAt s d).effective = .opened →
        (newer a.epoch s.label.epoch = true → markArrival d a s = labelChange (bestLabel s a.epoch) s)
        ∧ (a.epoch = s.label.epoch → markArrival d a s = recompute s)
        ∧ (newer s.label.epoch a.epoch = true → markArrival d a s = queueMark s))

/-- A recompute by the table of R43: a better candidate is adopted, in the current epoch; a label that is a candidate and is not
bettered stands; a label that is no candidate and is not bettered is better than every candidate, and a new epoch is opened; at
the self candidate the worsening rule cannot apply. -/
def Obligations.RecomputeByTheTable : Prop :=
  ∀ s : State,
    let best := bestLabel s s.label.epoch
    let standing := s.label = selfLabel s s.label.epoch ∨ ∃ d, candidate s s.label.epoch d = some s.label
    best.epoch = s.label.epoch
    ∧ (better best s.label = true → recompute s = labelChange best s)
    ∧ (standing → better best s.label = false → recompute s = s)
    ∧ (¬ standing → better best s.label = false → better s.label best = true ∧ recompute s = openEpoch s)
    ∧ (s.label = selfLabel s s.label.epoch → recompute s = s ∨ recompute s = labelChange best s)

/-- QUIET_EXPIRY in SETTLING: a cell that is its own root creates the zone record, takes the pending nudge over into it and queues
the census call; any other becomes AWAIT with its order timer started (R48, R59, R60, R123, R126, R135; the mark on an outstanding
NUDGE is log 25). -/
def Obligations.QuietExpiryMakesHeadOrAwait : Prop :=
  ∀ s : State, s.role = .settling → s.quiet.isSome = true →
    let z : Zone :=
      { epoch := s.label.epoch, round := 0, setpoint := s.cell.tempPref, lightPref := s.cell.lightPref, lightTarget := 0,
        occupancy := .vacant, residency := .stopped, integrator := 0, demand := 0, census := 1,
        preset := ⟨none, none⟩, adjust := s.cell.nudge, roll := [], gather := some (seconds s.params.gather),
        roundTimer := none }
    let call : Order :=
      { epoch := s.label.epoch, source := s.params.own, round := 0, kind := .call, census := 1,
        setpoint := s.cell.tempPref, lightPref := s.cell.lightPref, lightTarget := 0, occupancy := .vacant, demand := 0 }
    (s.label.root = s.params.own → exec .quietExpiry s = .next { s with
      role := .headGather
      quiet := none
      zone := some z
      slots := { s.slots with order := handSlot call s.slots.order }
      cell := { s.cell with
        orderTimer := none
        nudge := ⟨0, 0⟩
        spent := s.cell.outstanding.isSome
        lastOrder := some call } })
    ∧ (s.label.root ≠ s.params.own → exec .quietExpiry s = .next { s with
        role := .await
        quiet := none
        cell := { s.cell with orderTimer := some (3 * seconds s.params.control) } })

/-! ### Zone Head and Gateway Filter -/

/-- GATHER_END in HEAD_GATHER: the birth of the zone, in the order of R67, with the head's own entry, FRESH and marked, from its own
state and its temperature absent under a sensor fault; the CONTROL ORDER of round 1 queued and handed to the head's own Cell Control
(R53, R67, R69, R87, R91, R93, R109). -/
def Obligations.GatherEndBearsTheZone : Prop :=
  (∀ s : State, ownEntry s =
    { cell := s.params.own, freshness := .fresh, marked := true,
      temperature := if s.cell.tempFault = true then none else s.cell.temperature, occupied := s.cell.occupied,
      tempPref := s.cell.tempPref, lightPref := s.cell.lightPref, lastDemand := s.cell.lastDemand,
      sensorFault := s.cell.tempFault })
  ∧ ∀ (s : State) (z : Zone), s.role = .headGather → s.zone = some z → z.gather.isSome = true →
    let roll := (rollWrite (ownEntry s) z.roll).map fun e => { e with freshness := .fresh, marked := false }
    let setpoint := clampSetpoint
      (z.preset.setpoint.getD (clampSetpoint (meanPreference (roll.map Entry.tempPref))) + z.adjust.temp)
    let lightPref := clampLightPref (z.preset.lightPref.getD (meanPreference (roll.map Entry.lightPref)) + z.adjust.light)
    let occ : Occupancy := if roll.any Entry.occupied then .occupied else .vacant
    let temps := roll.map fun e => if e.sensorFault then none else e.temperature
    let e := climateError setpoint (zoneTemperature temps) (effectiveDeadband s.params occ s.floorMode)
    let i := clampDemand (meanDemand (roll.map Entry.lastDemand) - s.params.kp * e)
    let z1 : Zone :=
      { epoch := z.epoch, round := 1, setpoint := setpoint, lightPref := lightPref,
        lightTarget := lightFor s.params occ s.floorMode lightPref, occupancy := occ,
        residency := if occ = .occupied then startResidency s.params else .stopped,
        integrator := i, demand := clampDemand (s.params.kp * e + i), census := roll.length, preset := ⟨none, none⟩,
        adjust := ⟨0, 0⟩, roll := roll, gather := none, roundTimer := some (seconds s.params.control) }
    exec .gatherEnd s = .next (queueOrder .control z1 { s with role := .headRun })

/-- ROUND_CLOSE in HEAD_RUN: the own entry refreshed, the roll aged, occupancy, light target, integrator and demand computed, S
and Lp kept, the next round opened and its CONTROL ORDER queued (R70, R71, R92, R93, R110). -/
def Obligations.RoundCloseComputesTheZone : Prop :=
  ∀ (s : State) (z : Zone), s.role = .headRun → s.zone = some z → z.roundTimer.isSome = true →
    let roll := (rollWrite (ownEntry s) z.roll).filterMap fun e =>
      if e.marked then some { e with freshness := .fresh, marked := false }
      else if e.freshness = .fresh then some { e with freshness := .carried } else none
    let present := roll.any Entry.occupied
    let occ : Occupancy :=
      if present = true ∨ (z.occupancy = .occupied ∧ z.residency ≠ .met) then .occupied else .vacant
    let temps := roll.map fun e => if e.sensorFault then none else e.temperature
    let e := climateError z.setpoint (zoneTemperature temps) (effectiveDeadband s.params occ s.floorMode)
    let i := integratorNext (s.params.kp * e) z.integrator (integralIncrement s.params e)
    ∃ z1 : Zone, exec .roundClose s = .next (queueOrder .control z1 s)
      ∧ z1.epoch = z.epoch ∧ z1.round = (if z.round = 255 then 1 else z.round + 1)
      ∧ z1.setpoint = z.setpoint ∧ z1.lightPref = z.lightPref
      ∧ z1.occupancy = occ ∧ z1.lightTarget = lightFor s.params occ s.floorMode z.lightPref
      ∧ (occ = z.occupancy → z1.residency = z.residency)
      ∧ (occ = .occupied → z.occupancy = .vacant → z1.residency = startResidency s.params)
      ∧ (occ = .vacant → z.occupancy = .occupied → z1.residency = .stopped)
      ∧ z1.integrator = i ∧ z1.demand = clampDemand (s.params.kp * e + i)
      ∧ z1.roll = roll ∧ z1.census = roll.length
      ∧ z1.preset = z.preset ∧ z1.adjust = z.adjust ∧ z1.gather = z.gather
      ∧ z1.roundTimer = some (seconds s.params.control)

/-- An ORDER queued by a head carries the epoch, round, census, S, Lp, Lz, occupancy and D of its record under the head's number
and goes to its ORDER slot and to its own Cell Control; an ORDER stored there is the last accepted ORDER
and, for a CONTROL ORDER, sets the preferences, the last demand with its outputs, and the light target by the table of R112; a
CALL applies nothing (R72, R112, R116, R121, R123, R129; that a target already held leaves a running fade as it is, and that any
other starts its step anew, is log 19). -/
def Obligations.OrderStoredAndApplied : Prop :=
  (∀ (own : Station) (kind : OrderKind) (z : Zone), zoneOrder own kind z =
    { epoch := z.epoch, source := own, round := z.round, kind := kind, census := z.census, setpoint := z.setpoint,
      lightPref := z.lightPref, lightTarget := z.lightTarget, occupancy := z.occupancy, demand := z.demand })
  ∧ (∀ (kind : OrderKind) (z : Zone) (s : State), queueOrder kind z s =
    storeOrder (zoneOrder s.params.own kind z) { s with
      zone := some z
      slots := { s.slots with order := handSlot (zoneOrder s.params.own kind z) s.slots.order } })
  ∧ (∀ (o : Order) (s : State), o.kind = .call → storeOrder o s = { s with cell := { s.cell with lastOrder := some o } })
  ∧ ∀ (o : Order) (s : State), o.kind = .control →
    let target := if o.occupancy = .vacant ∧ s.cell.occupied = true then o.lightPref else o.lightTarget
    storeOrder o s = { s with
      cell := { s.cell with
        lastOrder := some o
        tempPref := o.setpoint
        lightPref := o.lightPref
        lastDemand := o.demand
        damper := damperFor s.params o.demand
        reheat := reheatFor o.demand }
      light := if target = s.light.target then s.light else { s.light with target := target, phase := 0 } }

/-- TALLY_RECEIVED: ignored without a record, outside the head roles, and unless addressed to this head in the record's epoch and
naming the round open; else its entry, FRESH and marked with its values clamped, is written into the roll, where it replaces the
cell's earlier entry but for its freshness, and in HEAD_RUN an occupied entry turns a VACANT zone OCCUPIED with an immediate ORDER
and its residency counting from zero, met at once with a minimum residency of 0 (R61 to R65, R73, R108, R109; the order of the roll
is log 20). -/
def Obligations.TallyEntersTheRoll : Prop :=
  (∀ (c : Station) (roll : List Entry), rollHas c roll = true ↔ ∃ e ∈ roll, e.cell = c)
  ∧ (∀ p : Params, (p.minResidency = 0 → startResidency p = .met) ∧ (0 < p.minResidency → startResidency p = .counting 0))
  ∧ (∀ (source : Station) (payload : BitVec 96) (s : State), s.role.operating = true → s.line.view ≠ .resync →
    source ≠ s.params.own → exec (.tallyReceived source payload) s
      = .next (headTally source (tallyOf payload) (hearSource (neighbourDir s source) (acknowledgeFrame s))))
  ∧ (∀ (source : Station) (t : Tally) (s : State), s.zone = none ∨ s.role.isHead = false → headTally source t s = s)
  ∧ (∀ (source : Station) (t : Tally),
    let e := tallyEntry source t
    e.cell = source ∧ e.freshness = .fresh ∧ e.marked = true ∧ e.occupied = t.occupied ∧ e.sensorFault = t.tempFault
    ∧ (∀ x, e.temperature = some x ↔ t.tempFault = false ∧ t.temperature = some x ∧ Within (-100) 600 x)
    ∧ e.tempPref = clamp 120 300 t.tempPref ∧ e.lightPref = clamp 100 1000 t.lightPref
    ∧ e.lastDemand = clamp (-1000) 1000 t.lastDemand)
  ∧ (∀ (new e : Entry) (roll : List Entry), roll.Pairwise (fun a b => a.cell.toNat < b.cell.toNat) →
    (e ∈ rollWrite new roll ↔
      e ∈ roll ∧ e.cell ≠ new.cell ∨ e = new ∧ rollHas new.cell roll = false
        ∨ ∃ old ∈ roll, old.cell = new.cell ∧ e = { new with freshness := old.freshness }))
  ∧ ∀ (source : Station) (t : Tally) (s : State) (z : Zone), s.zone = some z →
    ((t.addressee ≠ s.params.own ∨ t.epoch ≠ z.epoch) → headTally source t s = s)
    ∧ (t.addressee = s.params.own → t.epoch = z.epoch →
      (s.role = .headGather →
        (t.round ≠ 0 → headTally source t s = s)
        ∧ (t.round = 0 → rollHas source z.roll = false → 249 ≤ z.roll.length → headTally source t s = s)
        ∧ (t.round = 0 → rollHas source z.roll = true ∨ z.roll.length < 249 →
            headTally source t s = { s with zone := some { z with roll := rollWrite (tallyEntry source t) z.roll } }))
      ∧ (s.role = .headRun →
        (t.round ≠ z.round → headTally source t s = s)
        ∧ (t.round = z.round → rollHas source z.roll = false → 250 ≤ z.roll.length → headTally source t s = s)
        ∧ (t.round = z.round → rollHas source z.roll = true ∨ z.roll.length < 250 →
            let z1 := { z with roll := rollWrite (tallyEntry source t) z.roll }
            (t.occupied = false ∨ z.occupancy = .occupied → headTally source t s = { s with zone := some z1 })
            ∧ (t.occupied = true → z.occupancy = .vacant → headTally source t s
                = queueOrder .control { z1 with
                    occupancy := .occupied
                    residency := startResidency s.params
                    lightTarget := z.lightPref } s))))

/-- NUDGE_RECEIVED, PRESET_RECEIVED and KEY_PRESS at a head: held in HEAD_GATHER; in HEAD_RUN applied to S and Lp, with an
immediate ORDER exactly when either changes. A NUDGE or PRESET without a record or outside the head roles is ignored, and a
PRESET's fields, each read in its place with the bits above an epoch and an addressee ignored, are clamped before it is handed on,
with 0 standing for no change (R62, R66, R68, R74, R75, R132, R166, R169). -/
def Obligations.NudgePresetAndKeyAtAHead : Prop :=
  (∀ (source : Station) (payload : BitVec 56) (s : State), s.role.operating = true → s.line.view ≠ .resync →
    source ≠ s.params.own → exec (.nudgeReceived source payload) s
      = .next (headNudge (nudgeOf payload) (hearSource (neighbourDir s source) (acknowledgeFrame s))))
  ∧ (∀ (source : Station) (payload : BitVec 64) (s : State), s.role.operating = true → s.line.view ≠ .resync →
    source ≠ s.params.own →
    let s0 := hearSource (neighbourDir s source) (acknowledgeFrame s)
    (source ∈ s.params.gateways →
      exec (.presetReceived source payload) s = .next (headPreset (presetOf payload).filtered s0))
    ∧ (source ∉ s.params.gateways → exec (.presetReceived source payload) s = .next s0))
  ∧ (∀ p : BitVec 64, presetOf p =
    { epoch := p.extractLsb' 48 12, addressee := p.extractLsb' 32 12, setpoint := (p.extractLsb' 16 16).toNat,
      lightPref := (p.extractLsb' 0 16).toNat })
  ∧ (∀ p : Preset, p.filtered =
    { epoch := p.epoch, addressee := p.addressee,
      setpoint := if p.setpoint = 0 then 0 else clamp 120 300 p.setpoint,
      lightPref := if p.lightPref = 0 then 0 else clamp 100 1000 p.lightPref })
  ∧ (∀ s : State, s.zone = none ∨ s.role.isHead = false →
    (∀ n : Nudge, headNudge n s = s) ∧ ∀ p : Preset, headPreset p s = s)
  ∧ ∀ (s : State) (z : Zone), s.zone = some z → s.role.isHead = true →
    (∀ key, exec (.keyPress key) s = .next (headDeltas (match key with
        | .warmer => ⟨5, 0⟩ | .cooler => ⟨-5, 0⟩ | .brighter => ⟨0, 50⟩ | .dimmer => ⟨0, -50⟩) z s))
    ∧ (∀ n : Nudge, n.addressee = s.params.own → n.epoch = z.epoch →
        headNudge n s = headDeltas ⟨clamp (-50) 50 n.deltas.temp, clamp (-500) 500 n.deltas.light⟩ z s)
    ∧ (∀ n : Nudge, n.addressee ≠ s.params.own ∨ n.epoch ≠ z.epoch → headNudge n s = s)
    ∧ (∀ p : Preset, p.addressee ≠ s.params.own ∨ p.epoch ≠ z.epoch → headPreset p s = s)
    ∧ (s.role = .headGather →
        (∀ d : Deltas, headDeltas d z s = { s with zone := some { z with
          adjust := ⟨clamp (-50) 50 (z.adjust.temp + d.temp), clamp (-500) 500 (z.adjust.light + d.light)⟩ } })
        ∧ ∀ p : Preset, p.addressee = s.params.own → p.epoch = z.epoch → headPreset p s = { s with zone := some { z with
            preset := ⟨if p.setpoint = 0 then none else some p.setpoint,
              if p.lightPref = 0 then none else some p.lightPref⟩ } })
    ∧ (s.role = .headRun →
        (∀ d : Deltas, headDeltas d z s
          = changeZone (clampSetpoint (z.setpoint + d.temp)) (clampLightPref (z.lightPref + d.light)) z s)
        ∧ (∀ p : Preset, p.addressee = s.params.own → p.epoch = z.epoch → headPreset p s
          = changeZone (if p.setpoint = 0 then z.setpoint else p.setpoint)
              (if p.lightPref = 0 then z.lightPref else p.lightPref) z s)
        ∧ (changeZone z.setpoint z.lightPref z s = s)
        ∧ ∀ sp lp : Int, sp ≠ z.setpoint ∨ lp ≠ z.lightPref → changeZone sp lp z s
          = queueOrder .control { z with
              setpoint := sp
              lightPref := lp
              lightTarget := lightFor s.params z.occupancy s.floorMode lp } s)

/-- SCHEDULE_RECEIVED: a code 0, 1 or 2 of a listed gateway sets the floor mode, and a change forms the local light target anew in
ORPHAN and MUTE; a code above 2, the mode already held and any other source change nothing (R166, R167). -/
def Obligations.ScheduleSetsTheFloorMode : Prop :=
  ∀ (source : Station) (code : BitVec 8) (s : State), s.role.operating = true → s.line.view ≠ .resync →
    source ≠ s.params.own →
    let s0 := hearSource (neighbourDir s source) (acknowledgeFrame s)
    (source ∉ s.params.gateways → exec (.scheduleReceived source code) s = .next s0)
    ∧ (2 < code.toNat → exec (.scheduleReceived source code) s = .next s0)
    ∧ ∀ mode : FloorMode, source ∈ s.params.gateways →
      code = (match mode with | .day => 0#8 | .evening => 1#8 | .night => 2#8) →
      (mode = s.floorMode → exec (.scheduleReceived source code) s = .next s0)
      ∧ (mode ≠ s.floorMode → s0.role ≠ .orphan → s0.role ≠ .mute →
          exec (.scheduleReceived source code) s = .next { s0 with floorMode := mode })
      ∧ (mode ≠ s.floorMode → s0.role = .orphan ∨ s0.role = .mute →
          exec (.scheduleReceived source code) s
            = .next (setTarget (lightFor s.params (if s.cell.occupied = true then .occupied else .vacant) mode s.cell.lightPref)
                { s0 with floorMode := mode }))

/-! ### Cell Control -/

/-- ORDER_RECEIVED: an ORDER that does not match, or comes in a head role or MUTE, is ignored; a matching one is accepted in the
order of R120, with its fields clamped, and makes the cell MEMBER, which hands a pending nudge on when none is outstanding. A TALLY
of a round carries the epoch and root of the label, the round, and the cell's temperature, absent under TEMP_FAULT, its occupancy,
preferences, last demand and flags as they stand when it is formed (R13, R51, R119 to R126, R134, R135; that round and census are
stored as received is log 24). -/
def Obligations.MatchingOrderIsAccepted : Prop :=
  (∀ (source : Station) (payload : BitVec 96) (s : State), s.role.operating = true → s.line.view ≠ .resync →
    source ≠ s.params.own → exec (.orderReceived source payload) s
      = .next (takeOrder (orderOf source payload) (hearSource (neighbourDir s source) (acknowledgeFrame s))))
  ∧ (∀ (round : BitVec 8) (s : State), formTally round s =
    { epoch := s.label.epoch, addressee := s.label.root, round := round,
      temperature := if s.cell.tempFault = true then none else s.cell.temperature, occupied := s.cell.occupied,
      tempPref := s.cell.tempPref, lightPref := s.cell.lightPref, lastDemand := s.cell.lastDemand,
      tempFault := s.cell.tempFault, hold := s.churn.hold,
      mismatch := s.edges.north.mismatch || s.edges.east.mismatch || s.edges.south.mismatch || s.edges.west.mismatch,
      unheard := s.line.unheard })
  ∧ ∀ (o : Order) (s : State),
    ((o.epoch ≠ s.label.epoch ∨ o.source ≠ s.label.root) → takeOrder o s = s)
    ∧ ((s.role = .headGather ∨ s.role = .headRun ∨ s.role = .mute) → takeOrder o s = s)
    ∧ ((s.role = .settling ∨ s.role = .await ∨ s.role = .member ∨ s.role = .orphan) →
        o.epoch = s.label.epoch → o.source = s.label.root →
        let named : Answered := { epoch := o.epoch, source := o.source, round := o.round }
        let s1 := if s.cell.lastAnswered = some named then s else { s with
          slots := { s.slots with tally := handSlot (formTally o.round s) s.slots.tally }
          cell := { s.cell with lastAnswered := some named } }
        let s2 := { s1 with cell := { s1.cell with orderTimer := some (3 * seconds s.params.control) } }
        let s3 := storeOrder { o with
          setpoint := clamp 120 300 o.setpoint
          lightPref := clamp 100 1000 o.lightPref
          lightTarget := clamp 0 1000 o.lightTarget
          demand := clamp (-1000) 1000 o.demand } s2
        (s.role = .member → takeOrder o s = s3)
        ∧ (s.role ≠ .member →
            let s4 := { s3 with role := .member, quiet := none, cell := { s3.cell with localRound := none } }
            (s.cell.nudge = ⟨0, 0⟩ ∨ s.cell.outstanding.isSome = true → takeOrder o s = s4)
            ∧ (s.cell.nudge ≠ ⟨0, 0⟩ → s.cell.outstanding = none → takeOrder o s = { s4 with
                slots := { s4.slots with nudge := handSlot ⟨s.label.epoch, s.label.root, s.cell.nudge⟩ s.slots.nudge }
                cell := { s4.cell with outstanding := some s.cell.nudge, spent := false } })))

/-- Entry to ORPHAN at ORDER_TIMEOUT, and the steps every entry to local control takes: the order timer stops, the pending nudge
is applied to the preferences and emptied, the local birth is made from the last demand, the local light target is formed and the
local round timer starts. A new light target starts its first step anew (R97, R115, R116, R126, R135, R136, R137; a target already
held is log 19, the mark on an outstanding NUDGE log 25). -/
def Obligations.EntryToLocalControl : Prop :=
  (∀ (t : Int) (s : State), setTarget t s =
    if t = s.light.target then s else { s with light := { s.light with target := t, phase := 0 } })
  ∧ (∀ s : State, s.role = .await ∨ s.role = .member → s.cell.orderTimer.isSome = true →
    exec .orderTimeout s = .next (enterLocal { s with role := .orphan }))
  ∧ ∀ s : State,
    let tempPref := clampSetpoint (s.cell.tempPref + s.cell.nudge.temp)
    let lightPref := clampLightPref (s.cell.lightPref + s.cell.nudge.light)
    let occ : Occupancy := if s.cell.occupied then .occupied else .vacant
    let e := climateError tempPref (if s.cell.tempFault then none else s.cell.temperature)
      (effectiveDeadband s.params occ s.floorMode)
    let i := clampDemand (s.cell.lastDemand - s.params.kp * e)
    let d := clampDemand (s.params.kp * e + i)
    enterLocal s = setTarget (lightFor s.params occ s.floorMode lightPref) { s with cell := { s.cell with
      orderTimer := none
      nudge := ⟨0, 0⟩
      spent := s.cell.outstanding.isSome
      tempPref := tempPref
      lightPref := lightPref
      localIntegrator := i
      lastDemand := d
      damper := damperFor s.params d
      reheat := reheatFor d
      localRound := some (seconds s.params.control) } }

/-- LOCAL_ROUND in ORPHAN and MUTE: the increment form of the stages from the cell's own preference and temperature, and the local
round timer restarted (R98). -/
def Obligations.LocalRoundComputesTheCell : Prop :=
  ∀ s : State, s.role = .orphan ∨ s.role = .mute → s.cell.localRound.isSome = true →
    let e := climateError s.cell.tempPref (if s.cell.tempFault then none else s.cell.temperature)
      (effectiveDeadband s.params (if s.cell.occupied then .occupied else .vacant) s.floorMode)
    let i := integratorNext (s.params.kp * e) s.cell.localIntegrator (integralIncrement s.params e)
    let d := clampDemand (s.params.kp * e + i)
    exec .localRound s = .next { s with cell := { s.cell with
      localIntegrator := i
      lastDemand := d
      damper := damperFor s.params d
      reheat := reheatFor d
      localRound := some (seconds s.params.control) } }

/-- OCCUPANCY_ASSERTION: the cell is occupied with its hold timer held; an onset sends the extra TALLY in MEMBER, enters the own
roll entry in HEAD_RUN, takes the fast path in MEMBER and the head roles, and forms the local light target in ORPHAN and MUTE
(R76, R103, R105, R113, R115; that a head evaluates its zone before the fast path is log 22). -/
def Obligations.OccupancyOnsetByRole : Prop :=
  ∀ s : State, s.role.operating = true →
    let s1 := { s with cell := { s.cell with contact := true, occupied := true, hold := .held } }
    (s.cell.occupied = true ∨ s.role = .settling ∨ s.role = .await → exec .occupancyAssertion s = .next s1)
    ∧ (s.cell.occupied = false →
      (s.role = .orphan ∨ s.role = .mute → exec .occupancyAssertion s
        = .next (setTarget s.cell.lightPref s1))
      ∧ ∀ o, s.cell.lastOrder = some o →
        let lit := fun t : State => if o.occupancy = .vacant then setTarget s.cell.lightPref t else t
        (s.role = .headGather → exec .occupancyAssertion s = .next (lit s1))
        ∧ (s.role = .member → exec .occupancyAssertion s = .next (lit { s1 with
            slots := { s.slots with tally := handSlot (formTally o.round s1) s.slots.tally } }))
        ∧ ∀ z, s.role = .headRun → s.zone = some z →
          let z1 := { z with roll := z.roll.map fun e =>
            if e.cell = s.params.own then { e with occupied := true, marked := true } else e }
          (z.occupancy = .occupied → exec .occupancyAssertion s = .next (lit { s1 with zone := some z1 }))
          ∧ (z.occupancy = .vacant → exec .occupancyAssertion s = .next (queueOrder .control { z1 with
              occupancy := .occupied
              residency := startResidency s.params
              lightTarget := z.lightPref } s1)))

/-- OCCUPANCY_RELEASE starts the held hold timer from the full occupancy hold; HOLD_TIMER_EXPIRY makes the cell unoccupied and, in
ORPHAN and MUTE, forms the local light target anew; RESIDENCY_MET marks a counting residency met. The light level of an OCCUPIED
zone or cell is the light preference in every floor mode, and of a VACANT one the standby light in DAY and 0 in EVENING and NIGHT
(R103, R104, R106, R108, R111, R115). -/
def Obligations.OccupancyEndsAndResidency : Prop :=
  (∀ (p : Params) (lp : Int),
    (∀ mode, lightFor p .occupied mode lp = lp)
    ∧ lightFor p .vacant .day lp = p.standby ∧ lightFor p .vacant .evening lp = 0 ∧ lightFor p .vacant .night lp = 0)
  ∧ ∀ s : State, s.role.operating = true →
    (s.cell.hold = .held → exec .occupancyRelease s = .next { s with cell := { s.cell with
      contact := false
      hold := .running (minutes s.params.occupancyHold) } })
    ∧ (s.cell.hold ≠ .held →
        exec .occupancyRelease s = .next { s with cell := { s.cell with contact := false } })
    ∧ (∀ n, s.cell.hold = .running n →
        let s1 := { s with cell := { s.cell with occupied := false, hold := .stopped } }
        (s.role ≠ .orphan → s.role ≠ .mute → exec .holdTimerExpiry s = .next s1)
        ∧ (s.role = .orphan ∨ s.role = .mute → exec .holdTimerExpiry s
            = .next (setTarget (lightFor s.params .vacant s.floorMode s.cell.lightPref) s1)))
    ∧ ∀ z n, s.zone = some z → z.residency = .counting n →
        exec .residencyMet s = .next { s with zone := some { z with residency := .met } }

/-- FADE_STEP moves the output one permille toward the target, in every operating role and in UNCOMMISSIONED; SENSOR_READ takes a
reading in -100..600 and clears TEMP_FAULT, and any other result makes the temperature absent and sets it (R116, R130; the rest of
the step's phase is log 19). -/
def Obligations.FadeAndSensorRead : Prop :=
  (∀ s : State, s.role.operating = true ∨ s.role = .uncommissioned →
    (s.light.output = s.light.target → exec .fadeStep s = .next s)
    ∧ (s.light.output < s.light.target → exec .fadeStep s = .next { s with light := { s.light with
        output := s.light.output + 1, phase := s.light.phase - 62500 } })
    ∧ (s.light.target < s.light.output → exec .fadeStep s = .next { s with light := { s.light with
        output := s.light.output - 1, phase := s.light.phase - 62500 } }))
  ∧ ∀ s : State, s.role.operating = true →
    exec (.sensorRead .noReply) s = .next { s with cell := { s.cell with temperature := none, tempFault := true } }
    ∧ ∀ x : Int,
      (Within (-100) 600 x → exec (.sensorRead (.reading x)) s
        = .next { s with cell := { s.cell with temperature := some x, tempFault := false } })
      ∧ (x < -100 ∨ 600 < x → exec (.sensorRead (.reading x)) s
        = .next { s with cell := { s.cell with temperature := none, tempFault := true } })

/-- KEY_PRESS outside the head roles: pending in SETTLING and AWAIT, pending and handed on as a NUDGE in MEMBER when none is
outstanding, applied to the cell's own preferences in ORPHAN and MUTE (R68, R132, R133, R134, R136). -/
def Obligations.KeyPressByRole : Prop :=
  ∀ (key : Key) (s : State),
    let step : Deltas := match key with
      | .warmer => ⟨5, 0⟩ | .cooler => ⟨-5, 0⟩ | .brighter => ⟨0, 50⟩ | .dimmer => ⟨0, -50⟩
    let nudge : Deltas := ⟨clamp (-50) 50 (s.cell.nudge.temp + step.temp), clamp (-500) 500 (s.cell.nudge.light + step.light)⟩
    let tempPref := clampSetpoint (s.cell.tempPref + step.temp)
    let lightPref := clampLightPref (s.cell.lightPref + step.light)
    (s.role = .settling ∨ s.role = .await →
      exec (.keyPress key) s = .next { s with cell := { s.cell with nudge := nudge } })
    ∧ (s.role = .member → s.cell.outstanding.isSome = true ∨ nudge = ⟨0, 0⟩ →
      exec (.keyPress key) s = .next { s with cell := { s.cell with nudge := nudge } })
    ∧ (s.role = .member → s.cell.outstanding = none → nudge ≠ ⟨0, 0⟩ →
      exec (.keyPress key) s = .next { s with
        slots := { s.slots with nudge := handSlot ⟨s.label.epoch, s.label.root, nudge⟩ s.slots.nudge }
        cell := { s.cell with nudge := nudge, outstanding := some nudge, spent := false } })
    ∧ (s.role = .orphan ∨ s.role = .mute →
      let s1 := { s with cell := { s.cell with tempPref := tempPref, lightPref := lightPref } }
      (lightPref = s.cell.lightPref → exec (.keyPress key) s = .next s1)
      ∧ (lightPref ≠ s.cell.lightPref → exec (.keyPress key) s = .next
          (setTarget (lightFor s.params (if s.cell.occupied = true then .occupied else .vacant) s.floorMode lightPref) s1)))

/-! ### Floor Line Interface -/

/-- A good frame with the cell's own number, of any received kind, and DUPLICATE_IN_ATTEMPT put the cell into MUTE: the flag and
the role set, the quiet timer, the zone record and the outstanding NUDGE gone, and local control entered; a frame of an attempt
stays WAITING, with its loss count 0, since it had won (R54, R137, R147, R148, R149, R160; newer content is kept, log 11; that the
rest of that frame is not assembled is log 30). -/
def Obligations.DuplicateNumberMutes : Prop :=
  (∀ s : State, s.role.operating = true → s.line.view ≠ .resync → s.line.attempt = none →
    let muted := enterMute { s with line := { s.line with assembling := false, ackDriven := !s.line.mute } }
    (∀ p, exec (.markReceived s.params.own p) s = .next muted) ∧ (∀ p, exec (.tallyReceived s.params.own p) s = .next muted)
    ∧ (∀ p, exec (.nudgeReceived s.params.own p) s = .next muted)
    ∧ (∀ p, exec (.presetReceived s.params.own p) s = .next muted)
    ∧ (∀ p, exec (.scheduleReceived s.params.own p) s = .next muted)
    ∧ (∀ p, exec (.orderReceived s.params.own p) s = .next muted)
    ∧ ∀ k n, exec (.unknownKindFrame s.params.own k n) s = .next muted)
  ∧ (∀ (s : State) (a : Attempt), s.role.operating = true → s.line.attempt = some a →
    exec .duplicateInAttempt s = .next (enterMute { s with
      slots := mapSlot muteSlot a.slot s.slots
      line := { s.line with attempt := none } }))
  ∧ (∀ (α : Type) (f : Held α), muteSlot (some f) = some { f with inAttempt := false, losses := 0 })
  ∧ ∀ s : State, (s.role = .mute → enterMute s = s)
    ∧ (s.role ≠ .mute → enterMute s = enterLocal { s with
        line := { s.line with mute := true }
        role := .mute
        quiet := none
        zone := none
        cell := { s.cell with outstanding := none } })

/-- ATTEMPT_START: on an IDLE line, with no backoff and outside MUTE, the selected frame begins its attempt at its current class
with its content as it stands and a good check, its slot alone becomes IN_ATTEMPT, and the line is BUSY; otherwise nothing begins
(log 5). Its kind code is 1 for a MARK, 2 for a TALLY, 3 for an ORDER and 4 for a NUDGE, and its payload the bytes of its content,
first byte first; on the line it is a dominant start bit, class, source, kind, length, payload and check, then eight recessive bits,
the first of them the acknowledgement slot. A check is good when it is the CRC of the kind, the length and the payload, most significant bit first: a register of all
ones, shifted left for each bit and taken with x^16 + x^12 + x^5 + 1 where the bit that leaves differs from the bit that comes, and
not inverted (8.2; R144, R145, R156, R159, R162). -/
def Obligations.AttemptStartsTheSelectedFrame : Prop :=
  (crc16 [] = 0xFFFF#16 ∧ ∀ (bits : List Bool) (bit : Bool),
    crc16 (bits ++ [bit]) = if (crc16 bits).getLsbD 15 = bit then crc16 bits <<< 1 else (crc16 bits <<< 1) ^^^ 0x1021#16)
  ∧ (∀ (w : Nat) (v : BitVec w), (bitsOf v).length = w ∧ ∀ i, i < w → (bitsOf v)[i]? = some (v.getLsbD (w - 1 - i)))
  ∧ (∀ f : LineFrame,
    let checked := bitsOf f.kind ++ bitsOf (BitVec.ofNat 5 f.payload.length) ++ f.payload.flatMap bitsOf
    (f.good = true ↔ f.crc = crc16 checked)
    ∧ f.bits = [false] ++ bitsOf (BitVec.ofNat 3 f.cls) ++ bitsOf f.source ++ checked ++ bitsOf f.crc ++ List.replicate 8 true)
  ∧ (slotKindCode .mark = 1 ∧ slotKindCode .tally = 2 ∧ slotKindCode .order = 3 ∧ slotKindCode .nudge = 4)
  ∧ (∀ sl : Slots,
    let byte := fun (w n : Nat) (v : BitVec w) (i : Nat) => v.extractLsb' (8 * (n - 1 - i)) 8
    (∀ f, sl.order = some f → slotPayload sl .order = (List.range 12).map (byte 96 12 (orderPayload f.content)))
    ∧ (∀ f, sl.mark = some f → slotPayload sl .mark = (List.range 8).map (byte 64 8 (markPayload f.content)))
    ∧ (∀ f, sl.nudge = some f → slotPayload sl .nudge = (List.range 7).map (byte 56 7 (nudgePayload f.content)))
    ∧ ∀ f, sl.tally = some f → slotPayload sl .tally = (List.range 12).map (byte 96 12 (tallyPayload f.content)))
  ∧ ∀ s : State, s.role.operating = true →
    (∀ id cls age, s.line.view = .idle → s.line.backoff = none → s.line.mute = false →
      selectSlot s.slots = some (id, cls, age) →
      ∃ f : LineFrame, f.cls = cls ∧ f.source = s.params.own ∧ f.kind = slotKindCode id
        ∧ f.payload = slotPayload s.slots id ∧ f.good = true
        ∧ exec .attemptStart s = .next { s with
            slots := mapSlot beginSlot id s.slots
            line := { s.line with view := .busy, assembling := false, attempt := some { slot := id, frame := f } } })
    ∧ ((s.line.view ≠ .idle ∨ s.line.backoff ≠ none ∨ s.line.mute = true ∨ selectSlot s.slots = none) →
        exec .attemptStart s = .next s)
    ∧ ∀ (f : {α : Type} → Slot α → Slot α) (sl : Slots),
      mapSlot f .order sl = { sl with order := f sl.order } ∧ mapSlot f .mark sl = { sl with mark := f sl.mark }
      ∧ mapSlot f .nudge sl = { sl with nudge := f sl.nudge } ∧ mapSlot f .tally sl = { sl with tally := f sl.tally }
      ∧ ∀ (α : Type) (g : Held α), beginSlot (some g) = some { g with inAttempt := true }

/-- Content handed to a slot; the three ends of an attempt, and what leaving its slot reports. Content becomes a fresh frame in an
EMPTY slot, the content of a WAITING frame, and newer content beside one IN_ATTEMPT. ARBITRATION_LOSS counts a loss and locks out
at the eighth; ACKNOWLEDGED clears UNHEARD and the frame leaves; UNACKNOWLEDGED keeps the frame for a retry with its losses
forgotten or, at a retry count of 3, drops it and sets UNHEARD; the two failures draw a backoff. A frame that stays takes newer
content in place of its own and keeps its age; one that leaves gives way to newer content as a fresh frame. A MARK that leaves
restarts the beacon timer with its 5 s; a NUDGE that leaves ends its flight, which in MEMBER, SETTLING and AWAIT subtracts its deltas from the
pending nudge unless an entry to a head role or ORPHAN came between (log 25), in MEMBER hands on a remainder, and in every other
role only clears the outstanding NUDGE. A draw makes three steps of the 16-stage generator, whose output bits are the count, the
first most significant; a step shifts every stage up by one and feeds stages 16, 14, 13 and 11 back into stage 1 (R134, R135, R146,
R150 to R155, R157, R158, R160, R161; the backoff counts bit times, log 10). -/
def Obligations.AttemptEnds : Prop :=
  (∀ g : BitVec 16,
    let stage := fun (h : BitVec 16) (k : Nat) => h.getLsbD (k - 1)
    let g1 := generatorStep g
    let g2 := generatorStep g1
    stage g1 1 = (stage g 16 ^^ stage g 14 ^^ stage g 13 ^^ stage g 11)
    ∧ (∀ k, 1 ≤ k → k ≤ 15 → stage g1 (k + 1) = stage g k)
    ∧ drawCount g = 4 * (stage g 16).toNat + 2 * (stage g1 16).toNat + (stage g2 16).toNat
    ∧ drawNext g = generatorStep g2)
  ∧ (∀ (s : State) (a : Attempt), s.role.operating = true → s.line.attempt = some a →
    let drawn := { s.line with
      attempt := none
      backoff := some (16 * drawCount s.line.generator)
      generator := drawNext s.line.generator }
    exec .arbitrationLoss s = .next { s with slots := mapSlot loseSlot a.slot s.slots, line := { drawn with assembling := true } }
    ∧ exec .acknowledged s = .next (reportLeaving a.slot { s with
        slots := mapSlot leaveSlot a.slot s.slots
        line := { s.line with attempt := none, unheard := false } })
    ∧ (readSlot slotRetries a.slot s.slots < 3 → exec .unacknowledged s = .next { s with
        slots := mapSlot retrySlot a.slot s.slots
        line := drawn })
    ∧ (3 ≤ readSlot slotRetries a.slot s.slots → exec .unacknowledged s = .next
        (drawBackoff (reportLeaving a.slot { s with
          slots := mapSlot leaveSlot a.slot s.slots
          line := { s.line with attempt := none, unheard := true } }))))
  ∧ (∀ (α : Type) (x : α) (f : Held α),
    let fresh : α → Held α := fun y =>
      { inAttempt := false, content := y, newer := none, age := 0, losses := 0, lockout := false, retries := 0 }
    let kept : Held α := { f with inAttempt := false, content := f.newer.getD f.content, newer := none }
    freshFrame x = fresh x
    ∧ handSlot x none = some (fresh x)
    ∧ (f.inAttempt = false → handSlot x (some f) = some { f with content := x })
    ∧ (f.inAttempt = true → handSlot x (some f) = some { f with newer := some x })
    ∧ (f.losses < 7 → loseSlot (some f) = some { kept with losses := f.losses + 1 })
    ∧ (7 ≤ f.losses → loseSlot (some f) = some { kept with losses := 8, lockout := true })
    ∧ retrySlot (some f) = some { kept with losses := 0, retries := f.retries + 1 }
    ∧ leaveSlot (some f) = f.newer.map fresh)
  ∧ (∀ s : State, drawBackoff s = { s with line := { s.line with
      backoff := some (16 * drawCount s.line.generator), generator := drawNext s.line.generator } })
  ∧ (∀ s : State, reportLeaving .order s = s ∧ reportLeaving .tally s = s
      ∧ reportLeaving .mark s = { s with line := { s.line with beacon := some 312500 } })
  ∧ (∀ s : State, s.cell.outstanding = none → reportLeaving .nudge s = s)
  ∧ ∀ (s : State) (d : Deltas), s.cell.outstanding = some d →
    let left : Deltas := if s.cell.spent then s.cell.nudge
      else ⟨clamp (-50) 50 (s.cell.nudge.temp - d.temp), clamp (-500) 500 (s.cell.nudge.light - d.light)⟩
    let s1 := { s with cell := { s.cell with nudge := left, outstanding := none, spent := false } }
    (s.role = .settling ∨ s.role = .await → reportLeaving .nudge s = s1)
    ∧ (s.role = .member → left = ⟨0, 0⟩ → reportLeaving .nudge s = s1)
    ∧ (s.role = .member → left ≠ ⟨0, 0⟩ → reportLeaving .nudge s = { s with
        slots := { s.slots with nudge := handSlot ⟨s.label.epoch, s.label.root, left⟩ s.slots.nudge }
        cell := { s.cell with nudge := left, outstanding := some left, spent := false } })
    ∧ (s.role.isHead = true ∨ s.role.isLocal = true →
        reportLeaving .nudge s = { s with cell := { s.cell with outstanding := none, spent := false } })

/-- The line's own events: START_BIT, LINE_IDLE, LOST_STEP, RESYNCHRONISATION_SILENCE, BACKOFF_END, PROMOTION, which takes the age
of a held frame, WAITING or IN_ATTEMPT, to its next whole 40 ms (2500 bit times), and BEACON_EXPIRY (R143, R153, R159, R161; a draw of 0 ends at the
first IDLE, log 28; BACKOFF_END in every view, log 5; the promotion is log 18). -/
def Obligations.LineEvents : Prop :=
  ∀ s : State, s.role.operating = true →
    let backoff := if s.line.backoff = some 0 then none else s.line.backoff
    (s.line.view = .idle →
      exec .startBit s = .next { s with line := { s.line with view := .busy, assembling := true, backoff := backoff } })
    ∧ (s.line.view = .busy → s.line.attempt = none →
      exec .lineIdle s = .next { s with line := { s.line with view := .idle, assembling := false, backoff := backoff } }
      ∧ exec .lostStep s = .next { s with line := { s.line with view := .resync, assembling := false } })
    ∧ (s.line.view = .resync → exec .resynchronisationSilence s
        = .next { s with line := { s.line with view := .idle, assembling := false, backoff := backoff } })
    ∧ exec .backoffEnd s = .next { s with line := { s.line with backoff := none } }
    ∧ (∀ id, exec (.promotion id) s = .next { s with slots := mapSlot promoteSlot id s.slots })
    ∧ (∀ (α : Type) (f : Held α), promoteSlot (none : Slot α) = none
        ∧ promoteSlot (some f) = some { f with age := (f.age / 2500 + 1) * 2500 })
    ∧ (s.line.beacon.isSome = true →
        (s.slots.mark = none → exec .beaconExpiry s = .next { s with
          slots := { s.slots with mark := some (freshFrame (formMark s)) }
          line := { s.line with beacon := none } })
        ∧ (s.slots.mark ≠ none → exec .beaconExpiry s = .next { s with line := { s.line with beacon := none } }))

/-! ### Commissioning Store -/

/-- RESET_START, and POWER_ON_RESET with the jumper held or with no good record: no RAM state is kept, the stored record is, and
the cell is in reset or in SERVICE with its outputs at 0, or in UNCOMMISSIONED with its light target 700 and its output 0, its
damper command 200 and its reheat command 0; the lock flag is clear in SERVICE only. A record is good when the written mark is set
and its check agrees (R172, R174, R175, R176, R177; the neutral values are
log 4, the role during a reset log 29). -/
def Obligations.ResetForgetsAllButTheRecord : Prop :=
  ∀ (i : StartInputs) (s : State),
    let bare := { State.reset with store := { s.store with lock := true }, ties := s.ties, pending := s.pending }
    let off := { bare with
      light := { target := 0, output := 0, phase := 0 }
      cell := { bare.cell with damper := 0, reheat := 0 } }
    (s.store.good = true ↔ s.store.written = true ∧ recordCheck s.store.bytes = true)
    ∧ (bare.role = .uncommissioned ∧ bare.light = { target := 700, output := 0, phase := 0 }
      ∧ bare.cell.damper = 200 ∧ bare.cell.reheat = 0 ∧ bare.port = .ready ∧ bare.zone = none ∧ bare.quiet = none
      ∧ bare.churn = { count := 0, burst := none, decay := none, hold := false }
      ∧ bare.slots = { order := none, mark := none, nudge := none, tally := none }
      ∧ bare.line.attempt = none ∧ bare.line.mute = false
      ∧ ∀ d, (edgeAt bare d).status = .unknown ∧ (edgeAt bare d).effective = .closed)
    ∧ exec .resetStart s = .next { off with role := .inReset }
    ∧ (i.jumper = true → exec (.powerOnReset i) s
        = .next { off with role := .service, store := { s.store with lock := false } })
    ∧ (i.jumper = false → s.store.good = false → exec (.powerOnReset i) s = .next bare)

/-- POWER_ON_RESET with a good record: every block at its values after power-on reset, the role SETTLING at label (0, own, 0), the
quiet timer running and the first MARK queued, the sensor read once, and an asserted contact taken (R18, R32, R33, R58, R117, R141,
R165, R168, R175; the first MARK's TEMP_FAULT is log 12, and the raw level and the sensed and applied states of a direction that is
no owned track are log 4). -/
def Obligations.GoodRecordStartsTheCell : Prop :=
  ∀ (i : StartInputs) (s : State), i.jumper = false → s.store.good = true →
    let p := loadParams s.store.bytes
    ∃ t, exec (.powerOnReset i) s = .next t
      ∧ t.role = .settling ∧ t.params = p ∧ t.label = { epoch := 0, root := p.own, hops := 0 }
      ∧ t.quiet = some (seconds p.quiet) ∧ t.zone = none ∧ t.floorMode = .day ∧ t.port = .ready
      ∧ t.churn = { count := 0, burst := none, decay := none, hold := false }
      ∧ t.store = { s.store with lock := true } ∧ t.pending = s.pending
      ∧ (∀ d, edgeAt t d =
          let kind := startKind p.own s.store.bytes d
          let sample := trackOf (atDir i.tracks d)
          { kind := kind, neighbour := neighbourNumber p.own d,
            raw := if kind = .trackOwned then atDir i.tracks d else .inactive,
            sensed := if kind = .trackOwned then sample else .absent,
            applied := if kind = .trackOwned then sample else .absent,
            settle := none, mirror := .closed, status := .unknown, silence := none, advert := none, mismatch := false,
            effective := .closed })
      ∧ t.light = { target := p.lightPref, output := 0, phase := 0 }
      ∧ t.cell.tempPref = p.tempPref ∧ t.cell.lightPref = p.lightPref ∧ t.cell.lastDemand = 0
      ∧ t.cell.damper = p.minFlow ∧ t.cell.reheat = 0 ∧ t.cell.lastOrder = none ∧ t.cell.lastAnswered = none
      ∧ t.cell.orderTimer = none ∧ t.cell.localRound = none ∧ t.cell.nudge = ⟨0, 0⟩ ∧ t.cell.outstanding = none
      ∧ t.cell.spent = false ∧ t.cell.localIntegrator = 0 ∧ t.cell.occupied = i.contact ∧ t.cell.contact = i.contact
      ∧ t.cell.hold = (if i.contact = true then .held else .stopped)
      ∧ (match i.sensor with
          | .noReply => t.cell.temperature = none ∧ t.cell.tempFault = true
          | .reading x => if -100 ≤ x ∧ x ≤ 600 then t.cell.temperature = some x ∧ t.cell.tempFault = false
              else t.cell.temperature = none ∧ t.cell.tempFault = true)
      ∧ t.line =
        { view := .resync, assembling := false, attempt := none, backoff := none,
          generator := BitVec.ofNat 16 (p.own.toNat + 1), beacon := none, unheard := false, mute := false,
          ackDriven := false }
      ∧ t.slots.order = none ∧ t.slots.nudge = none ∧ t.slots.tally = none
      ∧ ∃ m, t.slots.mark = some (freshFrame m) ∧ m.epoch = 0 ∧ m.root = p.own ∧ m.hops = 0 ∧ m.role = .settling
          ∧ m.churn = 0 ∧ m.hold = false ∧ m.mismatch = false ∧ m.unheard = false ∧ m.tempFault = false
          ∧ m.views = ⟨ownView t.edges.north, ownView t.edges.east, ownView t.edges.south, ownView t.edges.west⟩

/-- Loading clamps every record into the ranges of R173: each field is the written one where it lies in its range and the nearer
limit where it does not, the three dependent fields last; an edge kind code of 5..255 is WALL; at most two gateways are listed, by
the low 12 bits of their numbers; BOUNDARY where the grid ends, and elsewhere the neighbour numbers own - 64 in the north, own + 1
in the east, own + 64 in the south and own - 1 in the west (R1, R173). -/
def Obligations.LoadingClampsTheRecord : Prop :=
  ∀ bytes : List Byte,
    let p := loadParams bytes
    let byte := recordByte bytes
    let word := recordWord bytes
    p.inRange
    ∧ (∀ i, byte i = (bytes.getD i 0).toNat ∧ word i = byte i * 256 + byte (i + 1))
    ∧ p.settle = max 5 (min (byte 11) 120) ∧ p.quiet = max 2 (min (byte 12) 30) ∧ p.gather = max 2 (min (byte 13) 20)
    ∧ p.control = max 10 (min (byte 14) 120) ∧ p.burst = max 10 (min (word 15) 600)
    ∧ p.churnDecay = max 1 (min (byte 19) 60) ∧ p.fadeRate = max 10 (min (word 30) 1000)
    ∧ p.occupancyHold = max 1 (min (byte 38) 60) ∧ p.minResidency = min (byte 39) 30
    ∧ p.kp = (min (byte 20) 100 : Nat) ∧ p.ki = (min (byte 21) 50 : Nat) ∧ p.deadband = (min (byte 22) 10 : Nat)
    ∧ p.setback = (min (byte 23) 50 : Nat) ∧ p.tempPref = (max 120 (min (word 24) 300) : Nat)
    ∧ p.lightPref = (max 100 (min (word 26) 1000) : Nat) ∧ p.standby = (min (word 28) 1000 : Nat)
    ∧ p.churnDepth = max 1 (min (byte 18) 15)
    ∧ p.churnThreshold = min (max 1 (min (byte 17) 15)) p.churnDepth
    ∧ p.minFlow = (min (word 32) 1000 : Nat)
    ∧ p.maxFlow = max p.minFlow (min (word 34) 1000 : Nat)
    ∧ p.heatFlow = max p.minFlow (min (word 36 : Int) p.maxFlow)
    ∧ p.own.toNat = min 63 (byte 0) * 64 + min 63 (byte 1)
    ∧ p.gateways = [BitVec.ofNat 12 (word 7), BitVec.ofNat 12 (word 9)].take (min (byte 6) 2)
    ∧ (∀ d,
        let code := byte (match d with | .north => 2 | .east => 3 | .south => 4 | .west => 5)
        (neighbourNumber p.own d = none → startKind p.own bytes d = .boundary)
        ∧ (neighbourNumber p.own d ≠ none →
          (code = 0 ∨ 5 ≤ code → startKind p.own bytes d = .wall) ∧ (code = 1 → startKind p.own bytes d = .fixedOpen)
          ∧ (code = 2 → startKind p.own bytes d = .trackOwned) ∧ (code = 3 → startKind p.own bytes d = .trackMirror)
          ∧ (code = 4 → startKind p.own bytes d = .boundary)))
    ∧ (neighbourNumber p.own .north = none ↔ min 63 (byte 0) = 0)
    ∧ (neighbourNumber p.own .south = none ↔ min 63 (byte 0) = 63)
    ∧ (neighbourNumber p.own .west = none ↔ min 63 (byte 1) = 0)
    ∧ (neighbourNumber p.own .east = none ↔ min 63 (byte 1) = 63)
    ∧ (∀ n, neighbourNumber p.own .north = some n → n.toNat + 64 = p.own.toNat)
    ∧ (∀ n, neighbourNumber p.own .east = some n → n.toNat = p.own.toNat + 1)
    ∧ (∀ n, neighbourNumber p.own .south = some n → n.toNat = p.own.toNat + 64)
    ∧ (∀ n, neighbourNumber p.own .west = some n → n.toNat + 1 = p.own.toNat)

/-- A message while the lock flag is set is answered LOCKED, whatever it is and complete or not, and changes nothing; a message
that arrives while a write or a reply is not finished, or while a reset lasts, is discarded (R174, R178; the message is the model's
grain, log 15). -/
def Obligations.LockedPortChangesNothing : Prop :=
  ∀ (data : List Byte) (code : Byte) (s : State) (c : Instr),
    c = .readRecord data ∨ c = .writeRecord data ∨ c = .driveOutputs data ∨ c = .unknownCommand code data
      ∨ c = .messageIncomplete data →
    (s.role ≠ .inReset → s.port = .ready → s.store.lock = true →
      exec c s = .next { s with port := .replying { code := .locked, data := [] } })
    ∧ ((s.port ≠ .ready ∨ s.role = .inReset) → exec c s = .next s)

/-- The service port in SERVICE: READ_RECORD and DRIVE_OUTPUTS of the right length; BAD_LENGTH for any other length, an unknown
command and an incomplete message; REPLY_SENT; WRITE_RECORD with BAD_CHECK and nothing changed when the check disagrees, else with
the written mark cleared first until WRITE_COMPLETE stores the bytes and sets it. The check agrees when the CRC over bytes 0..39,
each most significant bit first, is bytes 40 and 41 (R145, R172, R178, R179, R180; whole messages are the model's grain, log 15, and
that the earlier bytes stand until WRITE_COMPLETE is its choice, log 16). -/
def Obligations.ServicePortAnswers : Prop :=
  ∀ (s : State), s.role = .service → s.port = .ready → s.store.lock = false →
    let replied := fun (t : State) (r : Reply) => { t with port := .replying r }
    let badLength := replied s { code := .badLength, data := [] }
    exec (.readRecord []) s
      = .next (replied s { code := .ok, data := if s.store.written then s.store.bytes else List.replicate 42 0xFF#8 })
    ∧ (∀ data, data ≠ [] → exec (.readRecord data) s = .next badLength)
    ∧ (∀ data, data.length ≠ 42 → exec (.writeRecord data) s = .next badLength)
    ∧ (∀ data, data.length ≠ 6 → exec (.driveOutputs data) s = .next badLength)
    ∧ (∀ code data, exec (.unknownCommand code data) s = .next badLength)
    ∧ (∀ bytes, exec (.messageIncomplete bytes) s = .next badLength)
    ∧ (∀ a b c d e f : Byte, exec (.driveOutputs [a, b, c, d, e, f]) s = .next (replied { s with
        light := { s.light with output := (min 1000 (a.toNat * 256 + b.toNat) : Nat) }
        cell := { s.cell with
          damper := (min 1000 (c.toNat * 256 + d.toNat) : Nat)
          reheat := (min 1000 (e.toNat * 256 + f.toNat) : Nat) } } { code := .ok, data := [] }))
    ∧ (∀ r, exec .replySent (replied s r) = .next s)
    ∧ ∀ data, data.length = 42 →
      (recordCheck data = true ↔
        (crc16 ((data.take 40).flatMap bitsOf)).toNat = (data.getD 40 0).toNat * 256 + (data.getD 41 0).toNat)
      ∧ (recordCheck data = false → exec (.writeRecord data) s = .next (replied s { code := .badCheck, data := [] }))
      ∧ (recordCheck data = true →
        let s1 := { s with store := { s.store with written := false }, port := .writing data }
        exec (.writeRecord data) s = .next s1
        ∧ exec .writeComplete s1 = .next (replied { s with store := { s.store with bytes := data, written := true } }
            { code := .ok, data := [] }))
end

