-- ==== Sys2Proof/Laws/State.lean ====
section
/-! SUPPORT. The small lemmas of the state's updates: reading one direction after one direction was written, and for each plain
update the fields it leaves alone. -/

namespace Sys2Proof.Machine

/-! ### One direction among four -/

@[simp] theorem atDir_setDir_same {α : Type} (p : PerDir α) (d : Dir) (x : α) : atDir (setDir p d x) d = x := by
  cases d <;> rfl

@[simp] theorem atDir_setDir_other {α : Type} (p : PerDir α) {d d' : Dir} (x : α) (h : d' ≠ d) :
    atDir (setDir p d x) d' = atDir p d' := by
  cases d <;> cases d' <;> first | rfl | exact absurd rfl h

@[simp] theorem setDir_setDir {α : Type} (p : PerDir α) (d : Dir) (x y : α) : setDir (setDir p d x) d y = setDir p d y := by
  cases d <;> rfl

@[simp] theorem setDir_atDir {α : Type} (p : PerDir α) (d : Dir) : setDir p d (atDir p d) = p := by
  cases d <;> rfl

@[simp] theorem edgeAt_setEdge_same (d : Dir) (e : Edge) (s : State) : edgeAt (setEdge d e s) d = e := by
  simp [edgeAt, setEdge]

@[simp] theorem edgeAt_setEdge_other {d d' : Dir} (e : Edge) (s : State) (h : d' ≠ d) :
    edgeAt (setEdge d e s) d' = edgeAt s d' := by
  simp [edgeAt, setEdge, h]

@[simp] theorem setEdge_setEdge (d : Dir) (e e' : Edge) (s : State) : setEdge d e' (setEdge d e s) = setEdge d e' s := by
  simp [setEdge]

@[simp] theorem setEdge_edges (d : Dir) (e : Edge) (s : State) : (setEdge d e s).edges = setDir s.edges d e := rfl

/-- Four values are known by their directions. -/
theorem perDir_ext {α : Type} {p q : PerDir α} (h : ∀ d, atDir p d = atDir q d) : p = q := by
  obtain ⟨a, b, c, d⟩ := p
  have hn := h .north; have he := h .east; have hs := h .south; have hw := h .west
  simp only [atDir] at hn he hs hw
  subst hn he hs hw; rfl

theorem edgeAt_congr {s t : State} (h : s.edges = t.edges) (d : Dir) : edgeAt s d = edgeAt t d := by
  simp [edgeAt, h]

/-! ### When the blocks run -/

/-- In an operating role a step is taken. -/
theorem whenOperating_of {s : State} (h : s.role.operating = true) (f : State → State) : whenOperating f s = .next (f s) := by
  simp [whenOperating, h]

/-- Outside operation a step leaves the state as it is. -/
theorem whenOperating_rest {s : State} (h : s.role.operating = false) (f : State → State) : whenOperating f s = .next s := by
  simp [whenOperating, h]

/-- A step answers a next state in every role. -/
theorem whenOperating_cases (f : State → State) (s : State) :
    (s.role.operating = true ∧ whenOperating f s = .next (f s)) ∨ (s.role.operating = false ∧ whenOperating f s = .next s) := by
  rcases h : s.role.operating
  · exact .inr ⟨rfl, whenOperating_rest h f⟩
  · exact .inl ⟨rfl, whenOperating_of h f⟩

/-- A good frame of another station is acknowledged and handled once the resynchronisation silence has been read. -/
theorem receiveFrame_other {source : Station} {s : State} (h1 : s.line.view ≠ .resync) (h2 : source ≠ s.params.own)
    (handler : Option Dir → State → State) :
    receiveFrame source handler s = handler (neighbourDir s source) (acknowledgeFrame s) := by
  simp [receiveFrame, h1, h2]

/-- What a received frame can do: nothing, the entry to MUTE, or its handler on the acknowledged state. -/
theorem receiveFrame_cases (source : Station) (handler : Option Dir → State → State) (s : State) :
    receiveFrame source handler s = s
    ∨ (s.line.attempt = none ∧ receiveFrame source handler s = enterMute (acknowledgeFrame s))
    ∨ receiveFrame source handler s = handler (neighbourDir s source) (acknowledgeFrame s) := by
  unfold receiveFrame
  split
  · exact .inl rfl
  · split
    · split
      · exact .inl rfl
      · rename_i h; exact .inr (.inl ⟨by simpa using h, rfl⟩)
    · exact .inr (.inr rfl)

/-! ### What each plain update leaves alone -/

@[simp] theorem setEdge_frame (d : Dir) (e : Edge) (s : State) :
    (setEdge d e s).role = s.role ∧ (setEdge d e s).params = s.params ∧ (setEdge d e s).churn = s.churn ∧
    (setEdge d e s).label = s.label ∧ (setEdge d e s).quiet = s.quiet ∧ (setEdge d e s).zone = s.zone ∧
    (setEdge d e s).cell = s.cell ∧ (setEdge d e s).light = s.light ∧ (setEdge d e s).floorMode = s.floorMode ∧
    (setEdge d e s).slots = s.slots ∧ (setEdge d e s).line = s.line ∧ (setEdge d e s).store = s.store ∧
    (setEdge d e s).port = s.port ∧ (setEdge d e s).ties = s.ties ∧ (setEdge d e s).pending = s.pending :=
  ⟨rfl, rfl, rfl, rfl, rfl, rfl, rfl, rfl, rfl, rfl, rfl, rfl, rfl, rfl, rfl⟩

@[simp] theorem queueMark_frame (s : State) :
    (queueMark s).role = s.role ∧ (queueMark s).params = s.params ∧ (queueMark s).edges = s.edges ∧
    (queueMark s).churn = s.churn ∧ (queueMark s).label = s.label ∧ (queueMark s).quiet = s.quiet ∧
    (queueMark s).zone = s.zone ∧ (queueMark s).cell = s.cell ∧ (queueMark s).light = s.light ∧
    (queueMark s).floorMode = s.floorMode ∧ (queueMark s).line = s.line ∧ (queueMark s).store = s.store ∧
    (queueMark s).port = s.port ∧ (queueMark s).ties = s.ties ∧ (queueMark s).pending = s.pending :=
  ⟨rfl, rfl, rfl, rfl, rfl, rfl, rfl, rfl, rfl, rfl, rfl, rfl, rfl, rfl, rfl⟩

@[simp] theorem enterSettling_frame (s : State) :
    (enterSettling s).params = s.params ∧ (enterSettling s).edges = s.edges ∧ (enterSettling s).churn = s.churn ∧
    (enterSettling s).label = s.label ∧ (enterSettling s).light = s.light ∧ (enterSettling s).floorMode = s.floorMode ∧
    (enterSettling s).slots = s.slots ∧ (enterSettling s).line = s.line ∧ (enterSettling s).store = s.store ∧
    (enterSettling s).port = s.port ∧ (enterSettling s).ties = s.ties ∧ (enterSettling s).pending = s.pending :=
  ⟨rfl, rfl, rfl, rfl, rfl, rfl, rfl, rfl, rfl, rfl, rfl, rfl⟩

@[simp] theorem applyDemand_frame (d : Int) (s : State) :
    (applyDemand d s).role = s.role ∧ (applyDemand d s).params = s.params ∧ (applyDemand d s).edges = s.edges ∧
    (applyDemand d s).churn = s.churn ∧ (applyDemand d s).label = s.label ∧ (applyDemand d s).quiet = s.quiet ∧
    (applyDemand d s).zone = s.zone ∧ (applyDemand d s).light = s.light ∧ (applyDemand d s).floorMode = s.floorMode ∧
    (applyDemand d s).slots = s.slots ∧ (applyDemand d s).line = s.line ∧ (applyDemand d s).store = s.store ∧
    (applyDemand d s).port = s.port ∧ (applyDemand d s).ties = s.ties ∧ (applyDemand d s).pending = s.pending :=
  ⟨rfl, rfl, rfl, rfl, rfl, rfl, rfl, rfl, rfl, rfl, rfl, rfl, rfl, rfl, rfl⟩

@[simp] theorem localBirth_frame (s : State) :
    (localBirth s).role = s.role ∧ (localBirth s).params = s.params ∧ (localBirth s).edges = s.edges ∧
    (localBirth s).churn = s.churn ∧ (localBirth s).label = s.label ∧ (localBirth s).quiet = s.quiet ∧
    (localBirth s).zone = s.zone ∧ (localBirth s).light = s.light ∧ (localBirth s).floorMode = s.floorMode ∧
    (localBirth s).slots = s.slots ∧ (localBirth s).line = s.line ∧ (localBirth s).store = s.store ∧
    (localBirth s).port = s.port ∧ (localBirth s).ties = s.ties ∧ (localBirth s).pending = s.pending :=
  ⟨rfl, rfl, rfl, rfl, rfl, rfl, rfl, rfl, rfl, rfl, rfl, rfl, rfl, rfl, rfl⟩

@[simp] theorem localComputation_frame (s : State) :
    (localComputation s).role = s.role ∧ (localComputation s).params = s.params ∧ (localComputation s).edges = s.edges ∧
    (localComputation s).churn = s.churn ∧ (localComputation s).label = s.label ∧ (localComputation s).quiet = s.quiet ∧
    (localComputation s).zone = s.zone ∧ (localComputation s).light = s.light ∧
    (localComputation s).floorMode = s.floorMode ∧ (localComputation s).slots = s.slots ∧
    (localComputation s).line = s.line ∧ (localComputation s).store = s.store ∧ (localComputation s).port = s.port ∧
    (localComputation s).ties = s.ties ∧ (localComputation s).pending = s.pending :=
  ⟨rfl, rfl, rfl, rfl, rfl, rfl, rfl, rfl, rfl, rfl, rfl, rfl, rfl, rfl, rfl⟩

@[simp] theorem startLocalRound_frame (s : State) :
    (startLocalRound s).role = s.role ∧ (startLocalRound s).params = s.params ∧ (startLocalRound s).edges = s.edges ∧
    (startLocalRound s).churn = s.churn ∧ (startLocalRound s).label = s.label ∧ (startLocalRound s).quiet = s.quiet ∧
    (startLocalRound s).zone = s.zone ∧ (startLocalRound s).light = s.light ∧
    (startLocalRound s).floorMode = s.floorMode ∧ (startLocalRound s).slots = s.slots ∧
    (startLocalRound s).line = s.line ∧ (startLocalRound s).store = s.store ∧ (startLocalRound s).port = s.port ∧
    (startLocalRound s).ties = s.ties ∧ (startLocalRound s).pending = s.pending :=
  ⟨rfl, rfl, rfl, rfl, rfl, rfl, rfl, rfl, rfl, rfl, rfl, rfl, rfl, rfl, rfl⟩

@[simp] theorem adjustPreferences_frame (d : Deltas) (s : State) :
    (adjustPreferences d s).role = s.role ∧ (adjustPreferences d s).params = s.params ∧
    (adjustPreferences d s).edges = s.edges ∧ (adjustPreferences d s).churn = s.churn ∧
    (adjustPreferences d s).label = s.label ∧ (adjustPreferences d s).quiet = s.quiet ∧
    (adjustPreferences d s).zone = s.zone ∧ (adjustPreferences d s).light = s.light ∧
    (adjustPreferences d s).floorMode = s.floorMode ∧ (adjustPreferences d s).slots = s.slots ∧
    (adjustPreferences d s).line = s.line ∧ (adjustPreferences d s).store = s.store ∧
    (adjustPreferences d s).port = s.port ∧ (adjustPreferences d s).ties = s.ties ∧
    (adjustPreferences d s).pending = s.pending :=
  ⟨rfl, rfl, rfl, rfl, rfl, rfl, rfl, rfl, rfl, rfl, rfl, rfl, rfl, rfl, rfl⟩

@[simp] theorem queueTally_frame (round : BitVec 8) (s : State) :
    (queueTally round s).role = s.role ∧ (queueTally round s).params = s.params ∧ (queueTally round s).edges = s.edges ∧
    (queueTally round s).churn = s.churn ∧ (queueTally round s).label = s.label ∧ (queueTally round s).quiet = s.quiet ∧
    (queueTally round s).zone = s.zone ∧ (queueTally round s).cell = s.cell ∧ (queueTally round s).light = s.light ∧
    (queueTally round s).floorMode = s.floorMode ∧ (queueTally round s).line = s.line ∧
    (queueTally round s).store = s.store ∧ (queueTally round s).port = s.port ∧ (queueTally round s).ties = s.ties ∧
    (queueTally round s).pending = s.pending :=
  ⟨rfl, rfl, rfl, rfl, rfl, rfl, rfl, rfl, rfl, rfl, rfl, rfl, rfl, rfl, rfl⟩

@[simp] theorem startOrderTimer_frame (s : State) :
    (startOrderTimer s).role = s.role ∧ (startOrderTimer s).params = s.params ∧ (startOrderTimer s).edges = s.edges ∧
    (startOrderTimer s).churn = s.churn ∧ (startOrderTimer s).label = s.label ∧ (startOrderTimer s).quiet = s.quiet ∧
    (startOrderTimer s).zone = s.zone ∧ (startOrderTimer s).light = s.light ∧
    (startOrderTimer s).floorMode = s.floorMode ∧ (startOrderTimer s).slots = s.slots ∧
    (startOrderTimer s).line = s.line ∧ (startOrderTimer s).store = s.store ∧ (startOrderTimer s).port = s.port ∧
    (startOrderTimer s).ties = s.ties ∧ (startOrderTimer s).pending = s.pending :=
  ⟨rfl, rfl, rfl, rfl, rfl, rfl, rfl, rfl, rfl, rfl, rfl, rfl, rfl, rfl, rfl⟩

@[simp] theorem acknowledgeFrame_frame (s : State) :
    (acknowledgeFrame s).role = s.role ∧ (acknowledgeFrame s).params = s.params ∧ (acknowledgeFrame s).edges = s.edges ∧
    (acknowledgeFrame s).churn = s.churn ∧ (acknowledgeFrame s).label = s.label ∧ (acknowledgeFrame s).quiet = s.quiet ∧
    (acknowledgeFrame s).zone = s.zone ∧ (acknowledgeFrame s).cell = s.cell ∧ (acknowledgeFrame s).light = s.light ∧
    (acknowledgeFrame s).floorMode = s.floorMode ∧ (acknowledgeFrame s).slots = s.slots ∧
    (acknowledgeFrame s).store = s.store ∧ (acknowledgeFrame s).port = s.port ∧ (acknowledgeFrame s).ties = s.ties ∧
    (acknowledgeFrame s).pending = s.pending :=
  ⟨rfl, rfl, rfl, rfl, rfl, rfl, rfl, rfl, rfl, rfl, rfl, rfl, rfl, rfl, rfl⟩

@[simp] theorem drawBackoff_frame (s : State) :
    (drawBackoff s).role = s.role ∧ (drawBackoff s).params = s.params ∧ (drawBackoff s).edges = s.edges ∧
    (drawBackoff s).churn = s.churn ∧ (drawBackoff s).label = s.label ∧ (drawBackoff s).quiet = s.quiet ∧
    (drawBackoff s).zone = s.zone ∧ (drawBackoff s).cell = s.cell ∧ (drawBackoff s).light = s.light ∧
    (drawBackoff s).floorMode = s.floorMode ∧ (drawBackoff s).slots = s.slots ∧ (drawBackoff s).store = s.store ∧
    (drawBackoff s).port = s.port ∧ (drawBackoff s).ties = s.ties ∧ (drawBackoff s).pending = s.pending :=
  ⟨rfl, rfl, rfl, rfl, rfl, rfl, rfl, rfl, rfl, rfl, rfl, rfl, rfl, rfl, rfl⟩

@[simp] theorem becomeIdle_frame (s : State) :
    (becomeIdle s).role = s.role ∧ (becomeIdle s).params = s.params ∧ (becomeIdle s).edges = s.edges ∧
    (becomeIdle s).churn = s.churn ∧ (becomeIdle s).label = s.label ∧ (becomeIdle s).quiet = s.quiet ∧
    (becomeIdle s).zone = s.zone ∧ (becomeIdle s).cell = s.cell ∧ (becomeIdle s).light = s.light ∧
    (becomeIdle s).floorMode = s.floorMode ∧ (becomeIdle s).slots = s.slots ∧ (becomeIdle s).store = s.store ∧
    (becomeIdle s).port = s.port ∧ (becomeIdle s).ties = s.ties ∧ (becomeIdle s).pending = s.pending :=
  ⟨rfl, rfl, rfl, rfl, rfl, rfl, rfl, rfl, rfl, rfl, rfl, rfl, rfl, rfl, rfl⟩

@[simp] theorem answer_frame (code : ReplyCode) (data : List Byte) (s : State) :
    (answer code data s).role = s.role ∧ (answer code data s).params = s.params ∧ (answer code data s).edges = s.edges ∧
    (answer code data s).churn = s.churn ∧ (answer code data s).label = s.label ∧ (answer code data s).quiet = s.quiet ∧
    (answer code data s).zone = s.zone ∧ (answer code data s).cell = s.cell ∧ (answer code data s).light = s.light ∧
    (answer code data s).floorMode = s.floorMode ∧ (answer code data s).slots = s.slots ∧
    (answer code data s).line = s.line ∧ (answer code data s).store = s.store ∧ (answer code data s).ties = s.ties ∧
    (answer code data s).pending = s.pending :=
  ⟨rfl, rfl, rfl, rfl, rfl, rfl, rfl, rfl, rfl, rfl, rfl, rfl, rfl, rfl, rfl⟩

@[simp] theorem beginWrite_frame (data : List Byte) (s : State) :
    (beginWrite data s).role = s.role ∧ (beginWrite data s).params = s.params ∧ (beginWrite data s).edges = s.edges ∧
    (beginWrite data s).churn = s.churn ∧ (beginWrite data s).label = s.label ∧ (beginWrite data s).quiet = s.quiet ∧
    (beginWrite data s).zone = s.zone ∧ (beginWrite data s).cell = s.cell ∧ (beginWrite data s).light = s.light ∧
    (beginWrite data s).floorMode = s.floorMode ∧ (beginWrite data s).slots = s.slots ∧
    (beginWrite data s).line = s.line ∧ (beginWrite data s).ties = s.ties ∧ (beginWrite data s).pending = s.pending :=
  ⟨rfl, rfl, rfl, rfl, rfl, rfl, rfl, rfl, rfl, rfl, rfl, rfl, rfl, rfl⟩

@[simp] theorem outputsOff_frame (s : State) :
    (outputsOff s).role = s.role ∧ (outputsOff s).params = s.params ∧ (outputsOff s).edges = s.edges ∧
    (outputsOff s).churn = s.churn ∧ (outputsOff s).label = s.label ∧ (outputsOff s).quiet = s.quiet ∧
    (outputsOff s).zone = s.zone ∧ (outputsOff s).floorMode = s.floorMode ∧ (outputsOff s).slots = s.slots ∧
    (outputsOff s).line = s.line ∧ (outputsOff s).store = s.store ∧ (outputsOff s).port = s.port ∧
    (outputsOff s).ties = s.ties ∧ (outputsOff s).pending = s.pending :=
  ⟨rfl, rfl, rfl, rfl, rfl, rfl, rfl, rfl, rfl, rfl, rfl, rfl, rfl, rfl⟩

@[simp] theorem addToNudge_frame (d : Deltas) (s : State) :
    (addToNudge d s).role = s.role ∧ (addToNudge d s).params = s.params ∧ (addToNudge d s).edges = s.edges ∧
    (addToNudge d s).churn = s.churn ∧ (addToNudge d s).label = s.label ∧ (addToNudge d s).quiet = s.quiet ∧
    (addToNudge d s).zone = s.zone ∧ (addToNudge d s).light = s.light ∧ (addToNudge d s).floorMode = s.floorMode ∧
    (addToNudge d s).slots = s.slots ∧ (addToNudge d s).line = s.line ∧ (addToNudge d s).store = s.store ∧
    (addToNudge d s).port = s.port ∧ (addToNudge d s).ties = s.ties ∧ (addToNudge d s).pending = s.pending :=
  ⟨rfl, rfl, rfl, rfl, rfl, rfl, rfl, rfl, rfl, rfl, rfl, rfl, rfl, rfl, rfl⟩

/-! ### What each plain update writes -/

@[simp] theorem queueMark_mark (s : State) : (queueMark s).slots.mark = handSlot (formMark s) s.slots.mark := rfl

@[simp] theorem queueMark_others (s : State) :
    (queueMark s).slots.order = s.slots.order ∧ (queueMark s).slots.nudge = s.slots.nudge
      ∧ (queueMark s).slots.tally = s.slots.tally :=
  ⟨rfl, rfl, rfl⟩

@[simp] theorem queueTally_tally (round : BitVec 8) (s : State) :
    (queueTally round s).slots.tally = handSlot (formTally round s) s.slots.tally := rfl

@[simp] theorem queueTally_others (round : BitVec 8) (s : State) :
    (queueTally round s).slots.order = s.slots.order ∧ (queueTally round s).slots.mark = s.slots.mark
      ∧ (queueTally round s).slots.nudge = s.slots.nudge :=
  ⟨rfl, rfl, rfl⟩

@[simp] theorem enterSettling_writes (s : State) :
    (enterSettling s).role = .settling ∧ (enterSettling s).quiet = some (seconds s.params.quiet)
      ∧ (enterSettling s).zone = none
      ∧ (enterSettling s).cell = { s.cell with orderTimer := none, localRound := none } :=
  ⟨rfl, rfl, rfl, rfl⟩

@[simp] theorem applyDemand_cell (d : Int) (s : State) : (applyDemand d s).cell =
    { s.cell with lastDemand := d, damper := damperFor s.params d, reheat := reheatFor d } := rfl

@[simp] theorem startLocalRound_cell (s : State) : (startLocalRound s).cell =
    { s.cell with localRound := some (seconds s.params.control) } := rfl

@[simp] theorem startOrderTimer_cell (s : State) : (startOrderTimer s).cell =
    { s.cell with orderTimer := some (3 * seconds s.params.control) } := rfl

@[simp] theorem acknowledgeFrame_line (s : State) : (acknowledgeFrame s).line =
    { s.line with assembling := false, ackDriven := !s.line.mute } := rfl

@[simp] theorem drawBackoff_line (s : State) : (drawBackoff s).line =
    { s.line with
      backoff := some (Config.backoffSlot * drawCount s.line.generator)
      generator := drawNext s.line.generator } := rfl

end Sys2Proof.Machine
end

