-- ==== Sys2Proof/Laws/LabelUnit.lean ====
section
/-! SUPPORT. The Label Unit: what a label change, an opened epoch, a recompute and a MARK arrival can do, and the facts of the label
order they rest on. -/

namespace Sys2Proof.Machine

/-! ### What the operations leave alone -/

@[simp] theorem labelChange_frame (l : Label) (s : State) :
    (labelChange l s).params = s.params ∧ (labelChange l s).edges = s.edges ∧ (labelChange l s).churn = s.churn ∧
    (labelChange l s).light = s.light ∧ (labelChange l s).floorMode = s.floorMode ∧ (labelChange l s).line = s.line ∧
    (labelChange l s).store = s.store ∧ (labelChange l s).port = s.port ∧ (labelChange l s).ties = s.ties ∧
    (labelChange l s).pending = s.pending := by
  unfold labelChange; split <;> simp

@[simp] theorem openEpoch_frame (s : State) :
    (openEpoch s).params = s.params ∧ (openEpoch s).edges = s.edges ∧ (openEpoch s).churn = s.churn ∧
    (openEpoch s).light = s.light ∧ (openEpoch s).floorMode = s.floorMode ∧ (openEpoch s).line = s.line ∧
    (openEpoch s).store = s.store ∧ (openEpoch s).port = s.port ∧ (openEpoch s).ties = s.ties ∧
    (openEpoch s).pending = s.pending := by
  simp [openEpoch]

@[simp] theorem adoptEpoch_frame (epoch : Epoch) (s : State) :
    (adoptEpoch epoch s).params = s.params ∧ (adoptEpoch epoch s).edges = s.edges ∧
    (adoptEpoch epoch s).churn = s.churn ∧ (adoptEpoch epoch s).light = s.light ∧
    (adoptEpoch epoch s).floorMode = s.floorMode ∧ (adoptEpoch epoch s).line = s.line ∧
    (adoptEpoch epoch s).store = s.store ∧ (adoptEpoch epoch s).port = s.port ∧ (adoptEpoch epoch s).ties = s.ties ∧
    (adoptEpoch epoch s).pending = s.pending := by
  simp [adoptEpoch]

@[simp] theorem recompute_frame (s : State) :
    (recompute s).params = s.params ∧ (recompute s).edges = s.edges ∧ (recompute s).churn = s.churn ∧
    (recompute s).light = s.light ∧ (recompute s).floorMode = s.floorMode ∧ (recompute s).line = s.line ∧
    (recompute s).store = s.store ∧ (recompute s).port = s.port ∧ (recompute s).ties = s.ties ∧
    (recompute s).pending = s.pending := by
  unfold recompute; (repeat' split) <;> simp

@[simp] theorem markArrival_frame (d : Dir) (a : Advert) (s : State) :
    (markArrival d a s).params = s.params ∧ (markArrival d a s).edges = s.edges ∧ (markArrival d a s).churn = s.churn ∧
    (markArrival d a s).light = s.light ∧ (markArrival d a s).floorMode = s.floorMode ∧
    (markArrival d a s).line = s.line ∧ (markArrival d a s).store = s.store ∧ (markArrival d a s).port = s.port ∧
    (markArrival d a s).ties = s.ties ∧ (markArrival d a s).pending = s.pending := by
  unfold markArrival; (repeat' split) <;> simp

/-! ### What they can do -/

/-- A label change in MUTE only changes the label and queues the MARK. -/
theorem labelChange_of_mute (l : Label) {s : State} (h : s.role = .mute) :
    labelChange l s = queueMark { s with label := l } := by
  simp [labelChange, h]

/-- A label change in any other role also enters SETTLING. -/
theorem labelChange_of_not_mute (l : Label) {s : State} (h : s.role ≠ .mute) :
    labelChange l s = queueMark (enterSettling { s with label := l }) := by
  simp [labelChange, h]

@[simp] theorem labelChange_label (l : Label) (s : State) : (labelChange l s).label = l := by
  unfold labelChange; split <;> rfl

@[simp] theorem labelChange_slots (l : Label) (s : State) : (labelChange l s).slots =
    { s.slots with
      mark := handSlot (formMark { s with label := l, role := if s.role = .mute then .mute else .settling }) s.slots.mark } := by
  unfold labelChange; split
  · rename_i h; simp [queueMark, h]
  · rfl

/-- The role after a label change. -/
theorem labelChange_role (l : Label) (s : State) :
    (labelChange l s).role = if s.role = .mute then .mute else .settling := by
  unfold labelChange; split <;> simp_all

/-- After a label change the role is an operating one. -/
theorem labelChange_operating (l : Label) (s : State) :
    (labelChange l s).role.operating = true := by
  rw [labelChange_role]; split <;> rfl

/-- Opening an epoch is a label change to the best candidate of the new epoch. -/
theorem openEpoch_eq (s : State) : openEpoch s = labelChange (bestLabel s (newestEpoch s + 1)) s := rfl

/-- A recompute leaves the state, or changes the label to the best candidate of some epoch. -/
theorem recompute_cases (s : State) : recompute s = s ∨ ∃ e, recompute s = labelChange (bestLabel s e) s := by
  unfold recompute
  split
  · exact .inr ⟨_, rfl⟩
  · split
    · exact .inl rfl
    · exact .inr ⟨_, openEpoch_eq s⟩

/-- A MARK arrival leaves the state, queues a MARK, or changes the label to the best candidate of some epoch. -/
theorem markArrival_cases (d : Dir) (a : Advert) (s : State) :
    markArrival d a s = s ∨ markArrival d a s = queueMark s ∨ ∃ e, markArrival d a s = labelChange (bestLabel s e) s := by
  unfold markArrival
  split
  · exact .inl rfl
  · split
    · exact .inr (.inr ⟨_, rfl⟩)
    · split
      · rcases recompute_cases s with h | h
        · exact .inl h
        · exact .inr (.inr h)
      · exact .inr (.inl rfl)

/-! ### The label order -/

/-- The label order on root and hops. -/
theorem better_iff (a b : Label) :
    better a b = true ↔ a.root.toNat < b.root.toNat ∨ a.root = b.root ∧ a.hops < b.hops := by
  simp [better]

/-- No label is better than itself. -/
theorem better_irrefl (a : Label) : better a a = false := by
  simp [better]

/-- What is better than a better label is better. -/
theorem better_trans {a b c : Label} (h1 : better a b = true) (h2 : better b c = true) : better a c = true := by
  rw [better_iff] at *
  rcases h1 with h1 | ⟨h1, h1'⟩ <;> rcases h2 with h2 | ⟨h2, h2'⟩
  · exact .inl (by omega)
  · exact .inl (h2 ▸ h1)
  · exact .inl (h1 ▸ h2)
  · exact .inr ⟨h1.trans h2, by omega⟩

/-- What is not worse than a label that is not worse is not worse. -/
theorem not_better_trans {a b c : Label} (h1 : better a b = false) (h2 : better b c = false) : better a c = false := by
  rw [← Bool.not_eq_true, better_iff] at *
  push Not at *
  refine ⟨by omega, fun h => ?_⟩
  have e1 : a.root = b.root := BitVec.eq_of_toNat_eq (by have := congrArg BitVec.toNat h; omega)
  have := h1.2 e1; have := h2.2 (e1.symm.trans h); omega

/-- A candidate belongs to the epoch asked for and lies at 1 to 249 hops. -/
theorem candidate_spec {s : State} {e : Epoch} {d : Dir} {l : Label} (h : candidate s e d = some l) :
    l.epoch = e ∧ 1 ≤ l.hops ∧ l.hops ≤ 249 := by
  unfold candidate at h
  split at h
  · exact absurd h (by simp)
  · split at h
    · rename_i hc
      cases h
      exact ⟨rfl, by simp, by simpa [Config.maxHops] using hc.2.2⟩
    · exact absurd h (by simp)

/-- One direction taken into the best candidate: the best so far, or that direction's candidate where it is better. -/
theorem bestNext_spec (s : State) (e : Epoch) (best : Label) (d : Dir) :
    (bestNext s e best d = best ∧ ∀ c, candidate s e d = some c → better c best = false)
    ∨ ∃ c, candidate s e d = some c ∧ better c best = true ∧ bestNext s e best d = c := by
  unfold bestNext
  split
  · rename_i h; simp [h]
  · rename_i c h
    split
    · rename_i hb; exact .inr ⟨c, h, hb, rfl⟩
    · rename_i hb; exact .inl ⟨rfl, fun c' h' => by simp_all⟩

/-- The candidates of a state are formed from its edges alone. -/
theorem candidate_congr {s t : State} (h : s.edges = t.edges) (e : Epoch) (d : Dir) :
    candidate s e d = candidate t e d := by
  unfold candidate; rw [edgeAt_congr h d]

/-- The best candidate of a state is formed from its edges and its own number alone. -/
theorem bestLabel_congr {s t : State} (h : s.edges = t.edges) (hp : s.params.own = t.params.own) (e : Epoch) :
    bestLabel s e = bestLabel t e := by
  have one : bestNext s e = bestNext t e := by
    funext b d; unfold bestNext; rw [candidate_congr h e d]
  unfold bestLabel selfLabel; rw [one, hp]

/-- The newest epoch of a state is read from its edges and its label's epoch alone. -/
theorem newestEpoch_congr {s t : State} (h : s.edges = t.edges) (hl : s.label.epoch = t.label.epoch) :
    newestEpoch s = newestEpoch t := by
  have one : newestNext s = newestNext t := by
    funext m d; unfold newestNext; rw [edgeAt_congr h d]
  unfold newestEpoch; rw [one, hl]

end Sys2Proof.Machine
end

