-- ==== Sys2Proof/Laws/EdgeMonitor.lean ====
section
/-! SUPPORT. The Edge Monitor and the Churn Monitor: what a re-evaluation, a good frame, a stored MARK, a churn event and the
release of HOLD can do. -/

namespace Sys2Proof.Machine

/-! ### What the operations leave alone -/

@[simp] theorem reevaluate_frame (d : Dir) (s : State) :
    (reevaluate d s).params = s.params ∧ (reevaluate d s).churn = s.churn ∧ (reevaluate d s).light = s.light ∧
    (reevaluate d s).floorMode = s.floorMode ∧ (reevaluate d s).line = s.line ∧ (reevaluate d s).store = s.store ∧
    (reevaluate d s).port = s.port ∧ (reevaluate d s).ties = s.ties ∧ (reevaluate d s).pending = s.pending := by
  unfold reevaluate; split <;> simp

@[simp] theorem heard_frame (d : Dir) (s : State) :
    (heard d s).params = s.params ∧ (heard d s).churn = s.churn ∧ (heard d s).light = s.light ∧
    (heard d s).floorMode = s.floorMode ∧ (heard d s).line = s.line ∧ (heard d s).store = s.store ∧
    (heard d s).port = s.port ∧ (heard d s).ties = s.ties ∧ (heard d s).pending = s.pending := by
  unfold heard; simp only []; split <;> simp

@[simp] theorem hearSource_frame (nd : Option Dir) (s : State) :
    (hearSource nd s).params = s.params ∧ (hearSource nd s).churn = s.churn ∧ (hearSource nd s).light = s.light ∧
    (hearSource nd s).floorMode = s.floorMode ∧ (hearSource nd s).line = s.line ∧ (hearSource nd s).store = s.store ∧
    (hearSource nd s).port = s.port ∧ (hearSource nd s).ties = s.ties ∧ (hearSource nd s).pending = s.pending := by
  cases nd <;> simp [hearSource]

@[simp] theorem takeMark_frame (d : Dir) (a : Advert) (s : State) :
    (takeMark d a s).params = s.params ∧ (takeMark d a s).churn = s.churn ∧ (takeMark d a s).light = s.light ∧
    (takeMark d a s).floorMode = s.floorMode ∧ (takeMark d a s).line = s.line ∧ (takeMark d a s).store = s.store ∧
    (takeMark d a s).port = s.port ∧ (takeMark d a s).ties = s.ties ∧ (takeMark d a s).pending = s.pending := by
  unfold takeMark; simp only []; (repeat' split) <;> simp

@[simp] theorem churnEvent_frame (s : State) :
    (churnEvent s).role = s.role ∧ (churnEvent s).params = s.params ∧ (churnEvent s).edges = s.edges ∧
    (churnEvent s).label = s.label ∧ (churnEvent s).quiet = s.quiet ∧ (churnEvent s).zone = s.zone ∧
    (churnEvent s).cell = s.cell ∧ (churnEvent s).light = s.light ∧ (churnEvent s).floorMode = s.floorMode ∧
    (churnEvent s).slots = s.slots ∧ (churnEvent s).line = s.line ∧ (churnEvent s).store = s.store ∧
    (churnEvent s).port = s.port ∧ (churnEvent s).ties = s.ties ∧ (churnEvent s).pending = s.pending := by
  unfold churnEvent; simp only []; split <;> simp

@[simp] theorem copyTrack_frame (s : State) (d : Dir) :
    (copyTrack s d).role = s.role ∧ (copyTrack s d).params = s.params ∧ (copyTrack s d).churn = s.churn ∧
    (copyTrack s d).label = s.label ∧ (copyTrack s d).quiet = s.quiet ∧ (copyTrack s d).zone = s.zone ∧
    (copyTrack s d).cell = s.cell ∧ (copyTrack s d).light = s.light ∧ (copyTrack s d).floorMode = s.floorMode ∧
    (copyTrack s d).line = s.line ∧ (copyTrack s d).store = s.store ∧ (copyTrack s d).port = s.port ∧
    (copyTrack s d).ties = s.ties ∧ (copyTrack s d).pending = s.pending := by
  unfold copyTrack; simp only []; split <;> simp

/-! ### What they can do -/

/-- The effective state does not depend on the fields a settle or a refresh writes. -/
theorem effectiveNow_congr {e e' : Edge} (h1 : e.status = e'.status) (h2 : e.kind = e'.kind) (h3 : e.applied = e'.applied)
    (h4 : e.mirror = e'.mirror) (h5 : e.advert = e'.advert) : effectiveNow e = effectiveNow e' := by
  simp [effectiveNow, ownView, h1, h2, h3, h4, h5]

/-- A re-evaluation that finds the effective state unchanged does nothing; any other writes it and opens an epoch. -/
theorem reevaluate_cases (d : Dir) (s : State) :
    (effectiveNow (edgeAt s d) = (edgeAt s d).effective ∧ reevaluate d s = s)
    ∨ (effectiveNow (edgeAt s d) ≠ (edgeAt s d).effective
        ∧ reevaluate d s = openEpoch (setEdge d { edgeAt s d with effective := effectiveNow (edgeAt s d) } s)) := by
  unfold reevaluate
  split
  · rename_i h; exact .inl ⟨h, rfl⟩
  · rename_i h; exact .inr ⟨h, rfl⟩

/-- After a re-evaluation the direction's effective state is the one its inputs give, and no other direction has moved. -/
theorem reevaluate_edges (d : Dir) (s : State) :
    (reevaluate d s).edges = setDir s.edges d { edgeAt s d with effective := effectiveNow (edgeAt s d) } := by
  rcases reevaluate_cases d s with ⟨h, h'⟩ | ⟨_, h'⟩
  · rw [h', h]; exact (setDir_atDir s.edges d).symm
  · simp [h']

/-- A good frame from a neighbour: the entry is ACTIVE with a full silence timer and its effective state re-evaluated when it was
not ACTIVE before. -/
theorem heard_cases (d : Dir) (s : State) :
    ((edgeAt s d).status = .active
      ∧ heard d s = setEdge d { edgeAt s d with status := .active, silence := some Config.silenceLimit } s)
    ∨ ((edgeAt s d).status ≠ .active
      ∧ heard d s = reevaluate d (setEdge d { edgeAt s d with status := .active, silence := some Config.silenceLimit } s)) := by
  unfold heard
  simp only []
  split
  · rename_i h; exact .inl ⟨h, rfl⟩
  · rename_i h; exact .inr ⟨h, rfl⟩

/-- The entry a stored MARK leaves, but for its effective state (R11). -/
def storedEdge (a : Advert) (e : Edge) : Edge :=
  { e with
    status := .active
    silence := some Config.silenceLimit
    advert := some a
    mirror := if e.kind = .trackMirror then mirrorOf a.facing else e.mirror
    mismatch := mismatchOf e.kind a.facing }

/-- A stored MARK re-evaluates the entry it wrote, over a state that differs from the one before in that direction and in the MARK
slot alone, and hands the arrival on. -/
theorem takeMark_eq (d : Dir) (a : Advert) (s : State) :
    ∃ m, takeMark d a s = markArrival d a (reevaluate d
      (setEdge d (storedEdge a (edgeAt s d)) { s with slots := { s.slots with mark := m } }))
      ∧ (m = s.slots.mark ∨ ∃ c, m = handSlot c s.slots.mark) := by
  unfold takeMark storedEdge
  by_cases hk : (edgeAt s d).kind = .trackMirror
  · by_cases hm : mirrorOf a.facing = (edgeAt s d).mirror
    · exact ⟨s.slots.mark, by simp [hk, hm, setEdge], .inl rfl⟩
    · refine ⟨(queueMark (setEdge d { edgeAt s d with
        status := .active
        silence := some Config.silenceLimit
        advert := some a
        mirror := mirrorOf a.facing } s)).slots.mark, ?_, .inr ⟨_, rfl⟩⟩
      simp [hk, hm, setEdge, queueMark]
  · exact ⟨s.slots.mark, by simp [hk, setEdge], .inl rfl⟩

/-- A churn event leaves the state while the burst timer runs, and else counts up to the depth, with both timers restarted. -/
theorem churnEvent_cases (s : State) :
    (s.churn.burst.isSome = true ∧ churnEvent s = s)
    ∨ (s.churn.burst = none ∧ ∃ c, (c = s.churn.count ∧ s.params.churnDepth ≤ c ∨ c = s.churn.count + 1 ∧ c ≤ s.params.churnDepth)
        ∧ churnEvent s = { s with churn :=
            { count := c, burst := some (seconds s.params.burst), decay := some (minutes s.params.churnDecay),
              hold := s.churn.hold || decide (s.params.churnThreshold ≤ c) } }) := by
  unfold churnEvent
  rcases h : s.churn.burst with _ | b
  · refine .inr ⟨rfl, _, ?_, rfl⟩
    split <;> omega
  · exact .inl ⟨rfl, rfl⟩

/-- A churn event handed by a settle expiry is taken, or, where it meets a decay expiry, taken with a tie decided, at once or after
that expiry (R25, R30). -/
theorem handChurnEvent_cases (s : State) :
    handChurnEvent s = churnEvent s
    ∨ s.churn.burst = none ∧ s.churn.decay = some 0
      ∧ (handChurnEvent s = churnEvent { s with ties := s.ties + 1 }
        ∨ handChurnEvent s = churnEvent (decayEnded { s with ties := s.ties + 1 })) := by
  unfold handChurnEvent
  split
  · rename_i h
    refine .inr ⟨h.1, h.2, ?_⟩
    simp only []
    split
    · exact .inl rfl
    · exact .inr rfl
  · exact .inl rfl

/-- What the release writes into one entry (R29). -/
def releasedEdge (e : Edge) : Edge :=
  if e.kind = .trackOwned ∧ e.sensed ≠ e.applied then
    { e with applied := e.sensed, effective := effectiveNow { e with applied := e.sensed } }
  else e

/-- One copy at the release writes that direction's entry and, where it differs, queues a MARK. -/
theorem copyTrack_cases (s : State) (d : Dir) :
    (releasedEdge (edgeAt s d) = edgeAt s d ∧ copyTrack s d = s)
    ∨ ∃ m, copyTrack s d = setEdge d (releasedEdge (edgeAt s d)) { s with slots := { s.slots with mark := m } }
        ∧ ∃ c, m = handSlot c s.slots.mark := by
  unfold copyTrack releasedEdge
  by_cases h : (edgeAt s d).kind = .trackOwned ∧ (edgeAt s d).sensed ≠ (edgeAt s d).applied
  · refine .inr ⟨(queueMark (setEdge d { edgeAt s d with applied := (edgeAt s d).sensed } s)).slots.mark, ?_, ⟨_, rfl⟩⟩
    simp only [if_pos h]
    simp [setEdge, queueMark]
  · exact .inl ⟨by rw [if_neg h], by simp only [if_neg h]⟩

/-- The edges after the copies of a release. -/
theorem foldl_copyTrack_edges (s : State) :
    (allDirs.foldl copyTrack s).edges = ⟨releasedEdge s.edges.north, releasedEdge s.edges.east, releasedEdge s.edges.south,
      releasedEdge s.edges.west⟩ := by
  have one : ∀ (t : State) (d : Dir), (copyTrack t d).edges = setDir t.edges d (releasedEdge (atDir t.edges d)) := by
    intro t d
    rcases copyTrack_cases t d with ⟨h, h'⟩ | ⟨m, h', _⟩
    · rw [h']; conv_lhs => rw [← setDir_atDir t.edges d]
      exact congrArg (setDir t.edges d) h.symm
    · rw [h']; rfl
  simp [allDirs, one, atDir, setDir]

end Sys2Proof.Machine
end

