-- ==== Sys2Proof/Laws/CellControl.lean ====
section
/-! SUPPORT. Cell Control and the Climate Calculator: the ranges of the arithmetic, and what applying an ORDER, entering local
control, a NUDGE's flight and an accepted ORDER can do. -/

namespace Sys2Proof.Machine

/-! ### Arithmetic -/

/-- A clamp lies in its range. -/
theorem clamp_within {lo hi : Int} (h : lo ≤ hi) (x : Int) : lo ≤ clamp lo hi x ∧ clamp lo hi x ≤ hi := by
  unfold clamp; omega

/-- A clamp leaves a value inside its range. -/
theorem clamp_of_within {lo hi x : Int} (h1 : lo ≤ x) (h2 : x ≤ hi) : clamp lo hi x = x := by
  unfold clamp; omega

theorem clampDemand_within (x : Int) : -1000 ≤ clampDemand x ∧ clampDemand x ≤ 1000 :=
  clamp_within (by decide) x

theorem clampSetpoint_within (x : Int) : 120 ≤ clampSetpoint x ∧ clampSetpoint x ≤ 300 :=
  clamp_within (by decide) x

theorem clampLightPref_within (x : Int) : 100 ≤ clampLightPref x ∧ clampLightPref x ≤ 1000 :=
  clamp_within (by decide) x

theorem clampDeltas_within (d : Deltas) :
    (-50 ≤ (clampDeltas d).temp ∧ (clampDeltas d).temp ≤ 50) ∧ (-500 ≤ (clampDeltas d).light ∧ (clampDeltas d).light ≤ 500) :=
  ⟨clamp_within (by decide) _, clamp_within (by decide) _⟩

/-- Stage 5 keeps the integrator in -1000..1000 (R92). -/
theorem integratorNext_within (prop i inc : Int) (h : -1000 ≤ i ∧ i ≤ 1000) :
    -1000 ≤ integratorNext prop i inc ∧ integratorNext prop i inc ≤ 1000 := by
  unfold integratorNext; split
  · exact h
  · exact clampDemand_within _

/-- A number over 1 is rounded to itself. -/
theorem roundHalfAway_one (x : Int) : roundHalfAway x 1 = x := by
  unfold roundHalfAway roundHalfUp; split <;> omega

/-- The mean of one demand is that demand. -/
theorem meanDemand_single (x : Int) : meanDemand [x] = x := by
  simp [meanDemand, roundHalfAway_one]

/-- The mean of one temperature is that temperature. -/
theorem zoneTemperature_single (t : Option Int) : zoneTemperature [t] = t := by
  cases t <;> simp [zoneTemperature, roundHalfAway_one]

/-- A light level of the table lies in 0..1000 when the preference and the standby light do. -/
theorem lightFor_within (p : Params) (occ : Occupancy) (mode : FloorMode) (pref : Int) (h1 : 0 ≤ pref ∧ pref ≤ 1000)
    (h2 : 0 ≤ p.standby ∧ p.standby ≤ 1000) : 0 ≤ lightFor p occ mode pref ∧ lightFor p occ mode pref ≤ 1000 := by
  unfold lightFor; split <;> first | exact h1 | exact h2 | exact ⟨le_refl 0, by decide⟩

/-! ### What the operations leave alone -/

@[simp] theorem setTarget_frame (t : Int) (s : State) :
    (setTarget t s).role = s.role ∧ (setTarget t s).params = s.params ∧ (setTarget t s).edges = s.edges ∧
    (setTarget t s).churn = s.churn ∧ (setTarget t s).label = s.label ∧ (setTarget t s).quiet = s.quiet ∧
    (setTarget t s).zone = s.zone ∧ (setTarget t s).cell = s.cell ∧ (setTarget t s).floorMode = s.floorMode ∧
    (setTarget t s).slots = s.slots ∧ (setTarget t s).line = s.line ∧ (setTarget t s).store = s.store ∧
    (setTarget t s).port = s.port ∧ (setTarget t s).ties = s.ties ∧ (setTarget t s).pending = s.pending := by
  unfold setTarget; split <;> simp

@[simp] theorem applyOrder_frame (o : Order) (s : State) :
    (applyOrder o s).role = s.role ∧ (applyOrder o s).params = s.params ∧ (applyOrder o s).edges = s.edges ∧
    (applyOrder o s).churn = s.churn ∧ (applyOrder o s).label = s.label ∧ (applyOrder o s).quiet = s.quiet ∧
    (applyOrder o s).zone = s.zone ∧ (applyOrder o s).floorMode = s.floorMode ∧ (applyOrder o s).slots = s.slots ∧
    (applyOrder o s).line = s.line ∧ (applyOrder o s).store = s.store ∧ (applyOrder o s).port = s.port ∧
    (applyOrder o s).ties = s.ties ∧ (applyOrder o s).pending = s.pending := by
  simp [applyOrder]

@[simp] theorem storeOrder_frame (o : Order) (s : State) :
    (storeOrder o s).role = s.role ∧ (storeOrder o s).params = s.params ∧ (storeOrder o s).edges = s.edges ∧
    (storeOrder o s).churn = s.churn ∧ (storeOrder o s).label = s.label ∧ (storeOrder o s).quiet = s.quiet ∧
    (storeOrder o s).zone = s.zone ∧ (storeOrder o s).floorMode = s.floorMode ∧ (storeOrder o s).slots = s.slots ∧
    (storeOrder o s).line = s.line ∧ (storeOrder o s).store = s.store ∧ (storeOrder o s).port = s.port ∧
    (storeOrder o s).ties = s.ties ∧ (storeOrder o s).pending = s.pending := by
  unfold storeOrder; simp only []; split <;> simp

@[simp] theorem fastPath_frame (s : State) :
    (fastPath s).role = s.role ∧ (fastPath s).params = s.params ∧ (fastPath s).edges = s.edges ∧
    (fastPath s).churn = s.churn ∧ (fastPath s).label = s.label ∧ (fastPath s).quiet = s.quiet ∧
    (fastPath s).zone = s.zone ∧ (fastPath s).cell = s.cell ∧ (fastPath s).floorMode = s.floorMode ∧
    (fastPath s).slots = s.slots ∧ (fastPath s).line = s.line ∧ (fastPath s).store = s.store ∧
    (fastPath s).port = s.port ∧ (fastPath s).ties = s.ties ∧ (fastPath s).pending = s.pending := by
  unfold fastPath; (repeat' split) <;> simp

@[simp] theorem formLocalTarget_frame (s : State) :
    (formLocalTarget s).role = s.role ∧ (formLocalTarget s).params = s.params ∧ (formLocalTarget s).edges = s.edges ∧
    (formLocalTarget s).churn = s.churn ∧ (formLocalTarget s).label = s.label ∧ (formLocalTarget s).quiet = s.quiet ∧
    (formLocalTarget s).zone = s.zone ∧ (formLocalTarget s).cell = s.cell ∧ (formLocalTarget s).floorMode = s.floorMode ∧
    (formLocalTarget s).slots = s.slots ∧ (formLocalTarget s).line = s.line ∧ (formLocalTarget s).store = s.store ∧
    (formLocalTarget s).port = s.port ∧ (formLocalTarget s).ties = s.ties ∧ (formLocalTarget s).pending = s.pending := by
  simp [formLocalTarget]

@[simp] theorem enterLocal_frame (s : State) :
    (enterLocal s).role = s.role ∧ (enterLocal s).params = s.params ∧ (enterLocal s).edges = s.edges ∧
    (enterLocal s).churn = s.churn ∧ (enterLocal s).label = s.label ∧ (enterLocal s).quiet = s.quiet ∧
    (enterLocal s).zone = s.zone ∧ (enterLocal s).floorMode = s.floorMode ∧ (enterLocal s).slots = s.slots ∧
    (enterLocal s).line = s.line ∧ (enterLocal s).store = s.store ∧ (enterLocal s).port = s.port ∧
    (enterLocal s).ties = s.ties ∧ (enterLocal s).pending = s.pending := by
  simp [enterLocal]

@[simp] theorem enterMute_frame (s : State) :
    (enterMute s).params = s.params ∧ (enterMute s).edges = s.edges ∧ (enterMute s).churn = s.churn ∧
    (enterMute s).label = s.label ∧ (enterMute s).floorMode = s.floorMode ∧ (enterMute s).slots = s.slots ∧
    (enterMute s).store = s.store ∧ (enterMute s).port = s.port ∧ (enterMute s).ties = s.ties ∧
    (enterMute s).pending = s.pending := by
  unfold enterMute; split <;> simp

@[simp] theorem enterOrphan_frame (s : State) :
    (enterOrphan s).params = s.params ∧ (enterOrphan s).edges = s.edges ∧ (enterOrphan s).churn = s.churn ∧
    (enterOrphan s).label = s.label ∧ (enterOrphan s).quiet = s.quiet ∧ (enterOrphan s).zone = s.zone ∧
    (enterOrphan s).floorMode = s.floorMode ∧ (enterOrphan s).slots = s.slots ∧ (enterOrphan s).line = s.line ∧
    (enterOrphan s).store = s.store ∧ (enterOrphan s).port = s.port ∧ (enterOrphan s).ties = s.ties ∧
    (enterOrphan s).pending = s.pending := by
  simp [enterOrphan]

@[simp] theorem offerNudge_frame (s : State) :
    (offerNudge s).role = s.role ∧ (offerNudge s).params = s.params ∧ (offerNudge s).edges = s.edges ∧
    (offerNudge s).churn = s.churn ∧ (offerNudge s).label = s.label ∧ (offerNudge s).quiet = s.quiet ∧
    (offerNudge s).zone = s.zone ∧ (offerNudge s).light = s.light ∧ (offerNudge s).floorMode = s.floorMode ∧
    (offerNudge s).line = s.line ∧ (offerNudge s).store = s.store ∧ (offerNudge s).port = s.port ∧
    (offerNudge s).ties = s.ties ∧ (offerNudge s).pending = s.pending := by
  unfold offerNudge; split <;> simp

@[simp] theorem flightEnd_frame (s : State) :
    (flightEnd s).role = s.role ∧ (flightEnd s).params = s.params ∧ (flightEnd s).edges = s.edges ∧
    (flightEnd s).churn = s.churn ∧ (flightEnd s).label = s.label ∧ (flightEnd s).quiet = s.quiet ∧
    (flightEnd s).zone = s.zone ∧ (flightEnd s).light = s.light ∧ (flightEnd s).floorMode = s.floorMode ∧
    (flightEnd s).line = s.line ∧ (flightEnd s).store = s.store ∧ (flightEnd s).port = s.port ∧
    (flightEnd s).ties = s.ties ∧ (flightEnd s).pending = s.pending := by
  unfold flightEnd; (repeat' split) <;> simp

@[simp] theorem answerOrder_frame (o : Order) (s : State) :
    (answerOrder o s).role = s.role ∧ (answerOrder o s).params = s.params ∧ (answerOrder o s).edges = s.edges ∧
    (answerOrder o s).churn = s.churn ∧ (answerOrder o s).label = s.label ∧ (answerOrder o s).quiet = s.quiet ∧
    (answerOrder o s).zone = s.zone ∧ (answerOrder o s).light = s.light ∧ (answerOrder o s).floorMode = s.floorMode ∧
    (answerOrder o s).line = s.line ∧ (answerOrder o s).store = s.store ∧ (answerOrder o s).port = s.port ∧
    (answerOrder o s).ties = s.ties ∧ (answerOrder o s).pending = s.pending := by
  unfold answerOrder; split <;> simp

@[simp] theorem enterMember_frame (s : State) :
    (enterMember s).params = s.params ∧ (enterMember s).edges = s.edges ∧ (enterMember s).churn = s.churn ∧
    (enterMember s).label = s.label ∧ (enterMember s).zone = s.zone ∧ (enterMember s).light = s.light ∧
    (enterMember s).floorMode = s.floorMode ∧ (enterMember s).line = s.line ∧ (enterMember s).store = s.store ∧
    (enterMember s).port = s.port ∧ (enterMember s).ties = s.ties ∧ (enterMember s).pending = s.pending := by
  simp [enterMember]

@[simp] theorem acceptOrder_frame (o : Order) (s : State) :
    (acceptOrder o s).params = s.params ∧ (acceptOrder o s).edges = s.edges ∧ (acceptOrder o s).churn = s.churn ∧
    (acceptOrder o s).label = s.label ∧ (acceptOrder o s).zone = s.zone ∧ (acceptOrder o s).floorMode = s.floorMode ∧
    (acceptOrder o s).line = s.line ∧ (acceptOrder o s).store = s.store ∧ (acceptOrder o s).port = s.port ∧
    (acceptOrder o s).ties = s.ties ∧ (acceptOrder o s).pending = s.pending := by
  unfold acceptOrder; simp only []; split <;> simp

@[simp] theorem readSensor_frame (r : SensorReading) (s : State) :
    (readSensor r s).role = s.role ∧ (readSensor r s).params = s.params ∧ (readSensor r s).edges = s.edges ∧
    (readSensor r s).churn = s.churn ∧ (readSensor r s).label = s.label ∧ (readSensor r s).quiet = s.quiet ∧
    (readSensor r s).zone = s.zone ∧ (readSensor r s).light = s.light ∧ (readSensor r s).floorMode = s.floorMode ∧
    (readSensor r s).slots = s.slots ∧ (readSensor r s).line = s.line ∧ (readSensor r s).store = s.store ∧
    (readSensor r s).port = s.port ∧ (readSensor r s).ties = s.ties ∧ (readSensor r s).pending = s.pending := by
  unfold readSensor; (repeat' split) <;> simp

@[simp] theorem takeOrder_frame (o : Order) (s : State) :
    (takeOrder o s).params = s.params ∧ (takeOrder o s).edges = s.edges ∧ (takeOrder o s).churn = s.churn ∧
    (takeOrder o s).label = s.label ∧ (takeOrder o s).zone = s.zone ∧ (takeOrder o s).floorMode = s.floorMode ∧
    (takeOrder o s).line = s.line ∧ (takeOrder o s).store = s.store ∧ (takeOrder o s).port = s.port ∧
    (takeOrder o s).ties = s.ties ∧ (takeOrder o s).pending = s.pending := by
  unfold takeOrder; split <;> simp

/-! ### What they can do -/

/-- Setting a target leaves the output where it is and the target at its value. -/
theorem setTarget_light (t : Int) (s : State) :
    (setTarget t s).light.target = t ∧ (setTarget t s).light.output = s.light.output := by
  unfold setTarget; split <;> simp_all

/-- A stored CALL is only the last accepted ORDER (R123). -/
theorem storeOrder_call {o : Order} (s : State) (h : o.kind = .call) :
    storeOrder o s = { s with cell := { s.cell with lastOrder := some o } } := by
  simp [storeOrder, h]

/-- A stored CONTROL ORDER sets the preferences, the last demand and its outputs (R121). -/
theorem storeOrder_control_cell {o : Order} (s : State) (h : o.kind = .control) :
    (storeOrder o s).cell = { s.cell with
      lastOrder := some o, tempPref := o.setpoint, lightPref := o.lightPref, lastDemand := o.demand,
      damper := damperFor s.params o.demand, reheat := reheatFor o.demand } := by
  simp [storeOrder, h, applyOrder]

/-- The light target a stored CONTROL ORDER sets (R112). -/
theorem storeOrder_control_target {o : Order} (s : State) (h : o.kind = .control) :
    (storeOrder o s).light.target =
      if o.occupancy = .vacant ∧ s.cell.occupied = true then o.lightPref else o.lightTarget := by
  simp only [storeOrder, h, applyOrder, (setTarget_light _ _).1, orderTarget]
  cases o.occupancy <;> cases hc : s.cell.occupied <;> simp [applyDemand]

@[simp] theorem storeOrder_lastOrder (o : Order) (s : State) : (storeOrder o s).cell.lastOrder = some o := by
  rcases h : o.kind
  · simp [storeOrder_call s h]
  · simp [storeOrder_control_cell s h]

@[simp] theorem storeOrder_output (o : Order) (s : State) : (storeOrder o s).light.output = s.light.output := by
  rcases h : o.kind
  · simp [storeOrder_call s h]
  · simp only [storeOrder, h, applyOrder, (setTarget_light _ _).2]; rfl

/-- The entry to local control, field by field (R137). -/
theorem enterLocal_cell (s : State) :
    ∃ tp lp i d, (enterLocal s).cell = { s.cell with
        orderTimer := none, nudge := ⟨0, 0⟩, spent := s.cell.outstanding.isSome, tempPref := tp, lightPref := lp, localIntegrator := i, lastDemand := d,
        damper := damperFor s.params d, reheat := reheatFor d, localRound := some (seconds s.params.control) }
      ∧ tp = clampSetpoint (s.cell.tempPref + s.cell.nudge.temp)
      ∧ lp = clampLightPref (s.cell.lightPref + s.cell.nudge.light)
      ∧ (-1000 ≤ i ∧ i ≤ 1000) ∧ (-1000 ≤ d ∧ d ≤ 1000) := by
  have h : (enterLocal s).cell = { (localBirth { adjustPreferences s.cell.nudge
      { s with cell := { s.cell with orderTimer := none } } with
        cell := { (adjustPreferences s.cell.nudge { s with cell := { s.cell with orderTimer := none } }).cell with
          nudge := ⟨0, 0⟩, spent := s.cell.outstanding.isSome } }).cell with localRound := some (seconds s.params.control) } := by
    simp [enterLocal, formLocalTarget]
  exact ⟨_, _, _, _, h, rfl, rfl, clampDemand_within _, clampDemand_within _⟩

/-- The light after the entry to local control: the output stands, the target is the local one (R115). -/
theorem enterLocal_light (s : State) :
    (enterLocal s).light.output = s.light.output
      ∧ (enterLocal s).light.target =
        lightFor s.params (cellOccupancy s.cell) s.floorMode (clampLightPref (s.cell.lightPref + s.cell.nudge.light)) := by
  simp only [enterLocal, startLocalRound, formLocalTarget, setTarget_light]
  exact ⟨rfl, rfl⟩

/-- A NUDGE is handed, with the pending nudge as its content, or nothing happens (R134, step 1). -/
theorem offerNudge_cases (s : State) :
    (s.cell.nudge = ⟨0, 0⟩ ∨ s.cell.outstanding.isSome = true) ∧ offerNudge s = s
    ∨ s.cell.nudge ≠ ⟨0, 0⟩ ∧ s.cell.outstanding = none ∧ offerNudge s = { s with
        slots := { s.slots with nudge := handSlot ⟨s.label.epoch, s.label.root, s.cell.nudge⟩ s.slots.nudge }
        cell := { s.cell with outstanding := some s.cell.nudge, spent := false } } := by
  unfold offerNudge
  split
  · rename_i h; exact .inl ⟨h, rfl⟩
  · rename_i h; push Not at h
    exact .inr ⟨h.1, by simpa using h.2, rfl⟩

/-- The end of a flight: nothing was outstanding; or the pending nudge becomes its remainder, which is offered in MEMBER; or the
outstanding NUDGE is only cleared (R134, step 3). -/
theorem flightEnd_cases (s : State) :
    (s.cell.outstanding = none ∧ flightEnd s = s)
    ∨ ∃ d, s.cell.outstanding = some d ∧
      ((s.role = .member ∧ flightEnd s = offerNudge { s with cell := { s.cell with
          nudge := remainder s.cell d, outstanding := none, spent := false } })
      ∨ ((s.role = .settling ∨ s.role = .await) ∧ flightEnd s = { s with cell := { s.cell with
          nudge := remainder s.cell d, outstanding := none, spent := false } })
      ∨ (s.role ≠ .member ∧ s.role ≠ .settling ∧ s.role ≠ .await
          ∧ flightEnd s = { s with cell := { s.cell with outstanding := none, spent := false } })) := by
  unfold flightEnd
  rcases h : s.cell.outstanding with _ | d
  · exact .inl ⟨rfl, rfl⟩
  · refine .inr ⟨d, rfl, ?_⟩
    rcases hr : s.role <;> simp

/-- An accepted ORDER: the cell it leaves, up to the pending NUDGE handed at the entry to MEMBER (R120). -/
theorem acceptOrder_role (o : Order) (s : State) : (acceptOrder o s).role = .member := by
  unfold acceptOrder
  simp only []
  split
  · rename_i h; simp [h]
  · simp [enterMember]

end Sys2Proof.Machine
end

