-- ==== Sys2Proof/Laws/Clock.lean ====
section
/-! SUPPORT. What is in the lists of due events, list by list, so that a proof about the clock need not unfold them. -/

namespace Sys2Proof.Machine

@[simp] theorem ranOut_iff (t : Timer) : ranOut t = true ↔ t = some 0 := by simp [ranOut]

@[simp] theorem mem_dueIf (b : Bool) (c d : Instr) : c ∈ dueIf b d ↔ c = d ∧ b = true := by cases b <;> simp [dueIf]

theorem mem_edgeDue (s : State) (d : Dir) (c : Instr) :
    c ∈ edgeDue s d ↔ c = .settleExpiry d ∧ (edgeAt s d).settle = some 0
      ∨ c = .silenceTimerExpiry d ∧ (edgeAt s d).silence = some 0 := by
  simp [edgeDue]

theorem mem_zoneDue (p : Params) (z : Zone) (c : Instr) :
    c ∈ zoneDue p z ↔ c = .gatherEnd ∧ z.gather = some 0 ∨ c = .roundClose ∧ z.roundTimer = some 0
      ∨ c = .residencyMet ∧ ∃ n, z.residency = .counting n ∧ minutes p.minResidency ≤ n := by
  rcases h : z.residency with _ | n | _ <;> simp [zoneDue, h]

theorem mem_allDirs (d : Dir) : d ∈ allDirs := by cases d <;> simp [allDirs]

end Sys2Proof.Machine
end

