-- ==== Sys2Proof/Laws/ZoneHead.lean ====
section
/-! SUPPORT. The Zone Head: the member roll under a written entry and under aging, and what a queued ORDER and each received frame
can do to the zone record. -/

namespace Sys2Proof.Machine

/-! ### The member roll -/

/-- The roll is kept in strictly rising order of cell number (log 20). -/
def RollSorted (roll : List Entry) : Prop := roll.Pairwise fun a b => a.cell.toNat < b.cell.toNat

/-- A written entry is in the roll, and every other entry was. -/
theorem mem_rollWrite {new e : Entry} {roll : List Entry} (h : e ∈ rollWrite new roll) :
    e.cell = new.cell ∨ e ∈ roll := by
  induction roll with
  | nil => simp [rollWrite] at h; exact .inl (by rw [h])
  | cons a as ih =>
    unfold rollWrite at h
    split at h
    · rcases List.mem_cons.1 h with h | h
      · exact .inl (by rw [h])
      · exact .inr (List.mem_cons_of_mem _ h)
    · split at h
      · rcases List.mem_cons.1 h with h | h
        · exact .inl (by rw [h])
        · exact .inr h
      · rcases List.mem_cons.1 h with h | h
        · exact .inr (by rw [h]; exact List.mem_cons_self)
        · exact (ih h).imp id (List.mem_cons_of_mem _)

/-- Writing an entry keeps the roll's order. -/
theorem rollWrite_sorted {new : Entry} {roll : List Entry} (h : RollSorted roll) : RollSorted (rollWrite new roll) := by
  induction roll with
  | nil => simp [rollWrite, RollSorted]
  | cons a as ih =>
    have h' := List.pairwise_cons.1 h
    unfold rollWrite
    split
    · rename_i hc
      exact List.pairwise_cons.2 ⟨fun b hb => by simpa [hc] using h'.1 b hb, h'.2⟩
    · rename_i hc
      split
      · rename_i hlt
        refine List.pairwise_cons.2 ⟨fun b hb => ?_, h⟩
        rcases List.mem_cons.1 hb with hb | hb
        · rw [hb]; exact hlt
        · exact lt_trans hlt (h'.1 b hb)
      · rename_i hge
        refine List.pairwise_cons.2 ⟨fun b hb => ?_, ih h'.2⟩
        rcases mem_rollWrite hb with hb | hb
        · have hne : a.cell.toNat ≠ new.cell.toNat := fun hh => hc (BitVec.eq_of_toNat_eq hh.symm)
          rw [hb]; omega
        · exact h'.1 b hb

/-- The cell number of a written entry is in the roll. -/
theorem rollHas_rollWrite (new : Entry) (roll : List Entry) : rollHas new.cell (rollWrite new roll) = true := by
  induction roll with
  | nil => simp [rollWrite, rollHas]
  | cons a as ih =>
    unfold rollWrite
    split
    · simp [rollHas]
    · split
      · simp [rollHas]
      · simp only [rollHas, List.any_cons] at ih ⊢
        rw [ih]; simp

/-- A cell number in the roll stays there when an entry is written. -/
theorem rollHas_of_rollWrite {c : Station} {new : Entry} {roll : List Entry} (h : rollHas c roll = true) :
    rollHas c (rollWrite new roll) = true := by
  induction roll with
  | nil => simp [rollHas] at h
  | cons a as ih =>
    unfold rollWrite
    simp only [rollHas, List.any_cons, Bool.or_eq_true, decide_eq_true_eq] at h ih ⊢
    split
    · rename_i hc; rcases h with h | h
      · simp [hc, h]
      · simp only [List.any_cons, h, Bool.or_true]
    · split
      · rcases h with h | h <;> simp [h]
      · rcases h with h | h
        · simp [h]
        · simp [ih h]

/-- Writing an entry keeps the roll's length when its cell number is there, and adds one otherwise. -/
theorem rollWrite_length {new : Entry} {roll : List Entry} (hs : RollSorted roll) :
    (rollWrite new roll).length = if rollHas new.cell roll = true then roll.length else roll.length + 1 := by
  induction roll with
  | nil => simp [rollWrite, rollHas]
  | cons a as ih =>
    have h' := List.pairwise_cons.1 hs
    unfold rollWrite
    by_cases hc : new.cell = a.cell
    · simp [hc, rollHas]
    · rw [if_neg hc]
      by_cases hlt : new.cell.toNat < a.cell.toNat
      · have : rollHas new.cell (a :: as) = false := by
          simp only [rollHas, List.any_eq_false, decide_eq_true_eq]
          intro b hb hbc
          rcases List.mem_cons.1 hb with hb | hb
          · exact hc (by rw [← hbc, hb])
          · have := h'.1 b hb; rw [hbc] at this; omega
        simp [hlt, this]
      · rw [if_neg hlt, List.length_cons, ih h'.2]
        have : rollHas new.cell (a :: as) = rollHas new.cell as := by
          simp only [rollHas, List.any_cons]
          rw [decide_eq_false (fun h => hc h.symm), Bool.false_or]
        rw [this]; split <;> simp

/-- Aging keeps an entry's cell number. -/
theorem ageEntry_cell {e e' : Entry} (h : ageEntry e = some e') : e'.cell = e.cell := by
  unfold ageEntry at h
  split at h
  · cases h; rfl
  · split at h
    · cases h; rfl
    · exact absurd h (by simp)

/-- Aging keeps the roll's order. -/
theorem ageRoll_sorted {roll : List Entry} (h : RollSorted roll) : RollSorted (roll.filterMap ageEntry) := by
  refine List.Pairwise.filterMap _ (fun a b hab x hx y hy => ?_) h
  rw [ageEntry_cell hx, ageEntry_cell hy]; exact hab

/-- A change that keeps the cell numbers keeps the roll's order. -/
theorem mapRoll_sorted {roll : List Entry} {f : Entry → Entry} (hf : ∀ e, (f e).cell = e.cell) (h : RollSorted roll) :
    RollSorted (roll.map f) := by
  refine List.Pairwise.map _ (fun a b hab => ?_) h
  rw [hf, hf]; exact hab

/-- A change that keeps the cell numbers keeps which cells are in the roll. -/
theorem rollHas_map {roll : List Entry} {f : Entry → Entry} (hf : ∀ e, (f e).cell = e.cell) (c : Station) :
    rollHas c (roll.map f) = rollHas c roll := by
  simp [rollHas, List.any_map, Function.comp_def, hf]

/-- A marked entry outlives the aging of a written roll: the head's own entry stays (R70). -/
theorem rollHas_aged {new : Entry} (roll : List Entry) (hm : new.marked = true) :
    rollHas new.cell ((rollWrite new roll).filterMap ageEntry) = true := by
  have hex : ∃ e ∈ rollWrite new roll, e.cell = new.cell ∧ e.marked = true := by
    induction roll with
    | nil => exact ⟨new, by simp [rollWrite], rfl, hm⟩
    | cons a as ih =>
      unfold rollWrite
      split
      · exact ⟨{ new with freshness := a.freshness }, List.mem_cons_self, rfl, hm⟩
      · split
        · exact ⟨new, List.mem_cons_self, rfl, hm⟩
        · obtain ⟨e, he, h⟩ := ih; exact ⟨e, List.mem_cons_of_mem _ he, h⟩
  obtain ⟨e, he, hc, hm'⟩ := hex
  simp only [rollHas, List.any_eq_true, decide_eq_true_eq, List.mem_filterMap]
  exact ⟨{ e with freshness := .fresh, marked := false }, ⟨e, he, by simp [ageEntry, hm']⟩, hc⟩

/-- Aging never lengthens the roll. -/
theorem ageRoll_length (roll : List Entry) : (roll.filterMap ageEntry).length ≤ roll.length :=
  List.length_filterMap_le _ _

/-! ### What the operations leave alone -/

@[simp] theorem queueOrder_frame (kind : OrderKind) (z : Zone) (s : State) :
    (queueOrder kind z s).role = s.role ∧ (queueOrder kind z s).params = s.params ∧
    (queueOrder kind z s).edges = s.edges ∧ (queueOrder kind z s).churn = s.churn ∧
    (queueOrder kind z s).label = s.label ∧ (queueOrder kind z s).quiet = s.quiet ∧
    (queueOrder kind z s).floorMode = s.floorMode ∧ (queueOrder kind z s).line = s.line ∧
    (queueOrder kind z s).store = s.store ∧ (queueOrder kind z s).port = s.port ∧ (queueOrder kind z s).ties = s.ties ∧
    (queueOrder kind z s).pending = s.pending := by
  simp [queueOrder]

@[simp] theorem evaluateWritten_frame (b : Bool) (z : Zone) (s : State) :
    (evaluateWritten b z s).role = s.role ∧ (evaluateWritten b z s).params = s.params ∧
    (evaluateWritten b z s).edges = s.edges ∧ (evaluateWritten b z s).churn = s.churn ∧
    (evaluateWritten b z s).label = s.label ∧ (evaluateWritten b z s).quiet = s.quiet ∧
    (evaluateWritten b z s).floorMode = s.floorMode ∧ (evaluateWritten b z s).line = s.line ∧
    (evaluateWritten b z s).store = s.store ∧ (evaluateWritten b z s).port = s.port ∧
    (evaluateWritten b z s).ties = s.ties ∧ (evaluateWritten b z s).pending = s.pending := by
  unfold evaluateWritten; split <;> simp

@[simp] theorem headTally_frame (source : Station) (t : Tally) (s : State) :
    (headTally source t s).role = s.role ∧ (headTally source t s).params = s.params ∧
    (headTally source t s).edges = s.edges ∧ (headTally source t s).churn = s.churn ∧
    (headTally source t s).label = s.label ∧ (headTally source t s).quiet = s.quiet ∧
    (headTally source t s).floorMode = s.floorMode ∧ (headTally source t s).line = s.line ∧
    (headTally source t s).store = s.store ∧ (headTally source t s).port = s.port ∧
    (headTally source t s).ties = s.ties ∧ (headTally source t s).pending = s.pending := by
  unfold headTally; (repeat' split) <;> simp

@[simp] theorem changeZone_frame (sp lp : Int) (z : Zone) (s : State) :
    (changeZone sp lp z s).role = s.role ∧ (changeZone sp lp z s).params = s.params ∧
    (changeZone sp lp z s).edges = s.edges ∧ (changeZone sp lp z s).churn = s.churn ∧
    (changeZone sp lp z s).label = s.label ∧ (changeZone sp lp z s).quiet = s.quiet ∧
    (changeZone sp lp z s).floorMode = s.floorMode ∧ (changeZone sp lp z s).line = s.line ∧
    (changeZone sp lp z s).store = s.store ∧ (changeZone sp lp z s).port = s.port ∧
    (changeZone sp lp z s).ties = s.ties ∧ (changeZone sp lp z s).pending = s.pending := by
  unfold changeZone; split <;> simp

@[simp] theorem headDeltas_frame (d : Deltas) (z : Zone) (s : State) :
    (headDeltas d z s).role = s.role ∧ (headDeltas d z s).params = s.params ∧ (headDeltas d z s).edges = s.edges ∧
    (headDeltas d z s).churn = s.churn ∧ (headDeltas d z s).label = s.label ∧ (headDeltas d z s).quiet = s.quiet ∧
    (headDeltas d z s).floorMode = s.floorMode ∧ (headDeltas d z s).line = s.line ∧ (headDeltas d z s).store = s.store ∧
    (headDeltas d z s).port = s.port ∧ (headDeltas d z s).ties = s.ties ∧ (headDeltas d z s).pending = s.pending := by
  unfold headDeltas; split <;> simp

@[simp] theorem headNudge_frame (n : Nudge) (s : State) :
    (headNudge n s).role = s.role ∧ (headNudge n s).params = s.params ∧ (headNudge n s).edges = s.edges ∧
    (headNudge n s).churn = s.churn ∧ (headNudge n s).label = s.label ∧ (headNudge n s).quiet = s.quiet ∧
    (headNudge n s).floorMode = s.floorMode ∧ (headNudge n s).line = s.line ∧ (headNudge n s).store = s.store ∧
    (headNudge n s).port = s.port ∧ (headNudge n s).ties = s.ties ∧ (headNudge n s).pending = s.pending := by
  unfold headNudge; split <;> simp

@[simp] theorem headPreset_frame (p : Preset) (s : State) :
    (headPreset p s).role = s.role ∧ (headPreset p s).params = s.params ∧ (headPreset p s).edges = s.edges ∧
    (headPreset p s).churn = s.churn ∧ (headPreset p s).label = s.label ∧ (headPreset p s).quiet = s.quiet ∧
    (headPreset p s).floorMode = s.floorMode ∧ (headPreset p s).line = s.line ∧ (headPreset p s).store = s.store ∧
    (headPreset p s).port = s.port ∧ (headPreset p s).ties = s.ties ∧ (headPreset p s).pending = s.pending := by
  unfold headPreset; (repeat' split) <;> simp

@[simp] theorem headOnset_frame (s : State) :
    (headOnset s).role = s.role ∧ (headOnset s).params = s.params ∧ (headOnset s).edges = s.edges ∧
    (headOnset s).churn = s.churn ∧ (headOnset s).label = s.label ∧ (headOnset s).quiet = s.quiet ∧
    (headOnset s).floorMode = s.floorMode ∧ (headOnset s).line = s.line ∧ (headOnset s).store = s.store ∧
    (headOnset s).port = s.port ∧ (headOnset s).ties = s.ties ∧ (headOnset s).pending = s.pending := by
  unfold headOnset; (repeat' split) <;> simp

/-! ### What they can do -/

@[simp] theorem queueOrder_zone (kind : OrderKind) (z : Zone) (s : State) : (queueOrder kind z s).zone = some z := by
  simp [queueOrder]

@[simp] theorem queueOrder_lastOrder (kind : OrderKind) (z : Zone) (s : State) :
    (queueOrder kind z s).cell.lastOrder = some (zoneOrder s.params.own kind z) := by
  simp [queueOrder]

@[simp] theorem queueOrder_slots (kind : OrderKind) (z : Zone) (s : State) : (queueOrder kind z s).slots =
    { s.slots with order := handSlot (zoneOrder s.params.own kind z) s.slots.order } := by
  simp [queueOrder]

/-- A queued CONTROL ORDER makes the head's own cell follow the record (R72, R121). -/
theorem queueOrder_control_cell (z : Zone) (s : State) : (queueOrder .control z s).cell = { s.cell with
    lastOrder := some (zoneOrder s.params.own .control z), tempPref := z.setpoint, lightPref := z.lightPref,
    lastDemand := z.demand, damper := damperFor s.params z.demand, reheat := reheatFor z.demand } := by
  unfold queueOrder
  rw [storeOrder_control_cell _ rfl]; rfl

/-- A zone evaluated after a written entry either only takes the record, or turns OCCUPIED with an immediate ORDER (R109). -/
theorem evaluateWritten_cases (b : Bool) (z : Zone) (s : State) :
    evaluateWritten b z s = { s with zone := some z }
    ∨ z.occupancy = .vacant ∧ evaluateWritten b z s = queueOrder .control (turnOccupied s.params s.floorMode z) s := by
  unfold evaluateWritten
  split
  · rename_i h; exact .inr ⟨h.2, rfl⟩
  · exact .inl rfl

/-- A TALLY is ignored, or in HEAD_GATHER its entry is written under the limit of 249, or in HEAD_RUN under the limit of 250 with
the zone evaluated (R62, R64, R65). -/
theorem headTally_cases (source : Station) (t : Tally) (s : State) :
    headTally source t s = s
    ∨ ∃ z roll, s.zone = some z ∧
      ((s.role = .headGather ∧ rollTake 249 (tallyEntry source t) z.roll = some roll
          ∧ headTally source t s = { s with zone := some { z with roll := roll } })
      ∨ (s.role = .headRun ∧ rollTake 250 (tallyEntry source t) z.roll = some roll
          ∧ headTally source t s = evaluateWritten t.occupied { z with roll := roll } s)) := by
  unfold headTally zoneTakes
  rcases hz : s.zone with _ | z
  · exact .inl rfl
  · simp only []
    by_cases hc : s.role.isHead ∧ t.addressee = s.params.own ∧ t.epoch = z.epoch
    · rw [if_pos hc]
      dsimp only
      split
      · rename_i hr
        by_cases h0 : t.round = 0
        · rw [if_pos h0]
          rcases ht : rollTake 249 (tallyEntry source t) z.roll with _ | roll
          · exact .inl rfl
          · exact .inr ⟨z, roll, rfl, .inl ⟨hr, ht, rfl⟩⟩
        · rw [if_neg h0]; exact .inl rfl
      · rename_i hr
        by_cases h0 : t.round = z.round
        · rw [if_pos h0]
          rcases ht : rollTake 250 (tallyEntry source t) z.roll with _ | roll
          · exact .inl rfl
          · exact .inr ⟨z, roll, rfl, .inr ⟨hr, ht, rfl⟩⟩
        · rw [if_neg h0]; exact .inl rfl
      all_goals exact .inl rfl
    · rw [if_neg hc]; exact .inl rfl

/-- A change of S and Lp in HEAD_RUN does nothing, or queues an immediate ORDER with the new values (R73). -/
theorem changeZone_cases (sp lp : Int) (z : Zone) (s : State) :
    changeZone sp lp z s = s
    ∨ changeZone sp lp z s = queueOrder .control { z with
        setpoint := sp, lightPref := lp, lightTarget := lightFor s.params z.occupancy s.floorMode lp } s := by
  unfold changeZone; split
  · exact .inl rfl
  · exact .inr rfl

end Sys2Proof.Machine
end

