-- ==== Sys2Proof/Laws/FloorLine.lean ====
section
/-! SUPPORT. The transmit slots, the attempt and the backoff generator: what each slot operation does to the frame's state and
counts, and what the attempt operations leave alone. -/

namespace Sys2Proof.Machine

/-! ### Slots -/

/-- Whether the slot's frame is IN_ATTEMPT. -/
abbrev slotBusy {α : Type} (f : Slot α) : Bool := f.any Held.inAttempt

/-- Content handed to a slot never starts or ends an attempt. -/
@[simp] theorem slotBusy_handSlot {α : Type} (x : α) (f : Slot α) : slotBusy (handSlot x f) = slotBusy f := by
  rcases f with _ | f
  · rfl
  · by_cases h : f.inAttempt <;> simp [handSlot, slotBusy, h]

@[simp] theorem handSlot_isSome {α : Type} (x : α) (f : Slot α) : (handSlot x f).isSome = true := by
  rcases f with _ | f <;> rfl

/-- Of two contents handed one after the other the later one stands (R157). -/
@[simp] theorem handSlot_handSlot {α : Type} (x y : α) (f : Slot α) : handSlot y (handSlot x f) = handSlot y f := by
  rcases f with _ | f
  · rfl
  · by_cases h : f.inAttempt <;> simp [handSlot, h]

/-- Content handed to a slot keeps the counts of a frame that is there, and starts them at 0 in an EMPTY slot (R155, R157). -/
theorem handSlot_counts {α : Type} {x : α} {f : Slot α} {h : Held α} (hh : handSlot x f = some h) :
    (f = none ∧ h = freshFrame x) ∨ ∃ g, f = some g ∧ h.losses = g.losses ∧ h.retries = g.retries ∧ h.age = g.age
      ∧ h.lockout = g.lockout ∧ h.inAttempt = g.inAttempt := by
  rcases f with _ | g
  · left; exact ⟨rfl, by simpa [handSlot] using hh.symm⟩
  · right
    refine ⟨g, rfl, ?_⟩
    simp only [handSlot, Option.some.injEq] at hh
    subst hh
    split <;> simp

@[simp] theorem slotBusy_beginSlot {α : Type} (f : Slot α) : slotBusy (beginSlot f) = f.isSome := by
  rcases f with _ | f <;> rfl

@[simp] theorem takeNewer_fields {α : Type} (f : Held α) : (takeNewer f).inAttempt = f.inAttempt ∧ (takeNewer f).age = f.age
    ∧ (takeNewer f).losses = f.losses ∧ (takeNewer f).lockout = f.lockout ∧ (takeNewer f).retries = f.retries := by
  unfold takeNewer; split <;> simp

@[simp] theorem slotBusy_loseSlot {α : Type} (f : Slot α) : slotBusy (loseSlot f) = false := by
  rcases f with _ | f <;> simp [loseSlot, slotBusy]

@[simp] theorem slotBusy_retrySlot {α : Type} (f : Slot α) : slotBusy (retrySlot f) = false := by
  rcases f with _ | f <;> simp [retrySlot, slotBusy]

@[simp] theorem slotBusy_leaveSlot {α : Type} (f : Slot α) : slotBusy (leaveSlot f) = false := by
  rcases f with _ | f
  · rfl
  · rcases h : f.newer <;> simp [leaveSlot, slotBusy, h, freshFrame]

@[simp] theorem slotBusy_muteSlot {α : Type} (f : Slot α) : slotBusy (muteSlot f) = false := by
  rcases f with _ | f <;> rfl

@[simp] theorem slotBusy_promoteSlot {α : Type} (f : Slot α) : slotBusy (promoteSlot f) = slotBusy f := by
  rcases f with _ | f <;> rfl

@[simp] theorem slotBusy_ageSlot {α : Type} (f : Slot α) : slotBusy (ageSlot f) = slotBusy f := by
  rcases f with _ | f <;> rfl

/-! ### What the operations leave alone -/

@[simp] theorem endAttempt_frame (f : {α : Type} → Slot α → Slot α) (id : SlotId) (s : State) :
    (endAttempt f id s).role = s.role ∧ (endAttempt f id s).params = s.params ∧ (endAttempt f id s).edges = s.edges ∧
    (endAttempt f id s).churn = s.churn ∧ (endAttempt f id s).label = s.label ∧ (endAttempt f id s).quiet = s.quiet ∧
    (endAttempt f id s).zone = s.zone ∧ (endAttempt f id s).cell = s.cell ∧ (endAttempt f id s).light = s.light ∧
    (endAttempt f id s).floorMode = s.floorMode ∧ (endAttempt f id s).store = s.store ∧
    (endAttempt f id s).port = s.port ∧ (endAttempt f id s).ties = s.ties ∧ (endAttempt f id s).pending = s.pending :=
  ⟨rfl, rfl, rfl, rfl, rfl, rfl, rfl, rfl, rfl, rfl, rfl, rfl, rfl, rfl⟩

@[simp] theorem beginAttempt_frame (id : SlotId) (cls : Nat) (s : State) :
    (beginAttempt id cls s).role = s.role ∧ (beginAttempt id cls s).params = s.params ∧
    (beginAttempt id cls s).edges = s.edges ∧ (beginAttempt id cls s).churn = s.churn ∧
    (beginAttempt id cls s).label = s.label ∧ (beginAttempt id cls s).quiet = s.quiet ∧
    (beginAttempt id cls s).zone = s.zone ∧ (beginAttempt id cls s).cell = s.cell ∧
    (beginAttempt id cls s).light = s.light ∧ (beginAttempt id cls s).floorMode = s.floorMode ∧
    (beginAttempt id cls s).store = s.store ∧ (beginAttempt id cls s).port = s.port ∧
    (beginAttempt id cls s).ties = s.ties ∧ (beginAttempt id cls s).pending = s.pending :=
  ⟨rfl, rfl, rfl, rfl, rfl, rfl, rfl, rfl, rfl, rfl, rfl, rfl, rfl, rfl⟩

@[simp] theorem reportLeaving_frame (id : SlotId) (s : State) :
    (reportLeaving id s).role = s.role ∧ (reportLeaving id s).params = s.params ∧ (reportLeaving id s).edges = s.edges ∧
    (reportLeaving id s).churn = s.churn ∧ (reportLeaving id s).label = s.label ∧ (reportLeaving id s).quiet = s.quiet ∧
    (reportLeaving id s).zone = s.zone ∧ (reportLeaving id s).light = s.light ∧
    (reportLeaving id s).floorMode = s.floorMode ∧ (reportLeaving id s).store = s.store ∧
    (reportLeaving id s).port = s.port ∧ (reportLeaving id s).ties = s.ties ∧ (reportLeaving id s).pending = s.pending := by
  cases id <;> simp [reportLeaving]

/-! ### The backoff generator -/

/-- A step of the generator never reaches zero (R154). -/
theorem generatorStep_ne_zero {g : BitVec 16} (h : g ≠ 0) : generatorStep g ≠ 0 := by
  intro h0
  apply h
  apply BitVec.eq_of_getLsbD_eq
  intro i hi
  have bit : ∀ j, j < 16 → (generatorStep g).getLsbD j = false := fun j _ => by rw [h0]; simp
  have low : ∀ j, j < 15 → g.getLsbD j = false := fun j hj => by
    have := bit (j + 1) (by omega)
    simp [generatorStep] at this
    exact this (by omega)
  have top : g.getLsbD 15 = false := by
    have := bit 0 (by omega)
    have h13 := low 13 (by omega); have h12 := low 12 (by omega); have h10 := low 10 (by omega)
    simp [generatorStep] at this h13 h12 h10 ⊢
    simpa [h13, h12, h10] using this
  rcases Nat.lt_or_ge i 15 with h15 | h15
  · simpa using low i h15
  · have : i = 15 := by omega
    subst this; simpa using top

/-- A draw never leaves the generator at zero. -/
theorem drawNext_ne_zero {g : BitVec 16} (h : g ≠ 0) : drawNext g ≠ 0 :=
  generatorStep_ne_zero (generatorStep_ne_zero (generatorStep_ne_zero h))

end Sys2Proof.Machine
end

