-- ==== Sys2Proof/WellFormed.lean ====
section
/-! DEFINITION. Which commands can arrive at all: the checks on the operands of a command that its row's own words make. A
command with no check here is well formed with every operand its type admits. -/

namespace Sys2Proof

/-- The payload length a known frame kind requires (R162), by kind code. -/
def requiredLength (kind : BitVec 3) : Option Nat :=
  match kind.toNat with
  | 1 => some 8
  | 2 => some 12
  | 3 => some 12
  | 4 => some 7
  | 5 => some 8
  | 6 => some 1
  | _ => none

/-- Data bytes that one length byte can name (10.5). -/
def dataFits (data : List Byte) : Bool := decide (data.length ≤ 255)

/-- The bytes of a message that has begun and is not complete (R178): the command byte alone, or fewer data bytes than the
length byte names. -/
def incompleteMessage : List Byte → Bool
  | [] => false
  | [_] => true
  | _ :: n :: data => decide (data.length < n.toNat)

/-- The check of a command's operands. -/
def Instr.wellFormed : Instr → Bool
  | .unknownKindFrame _ kind length => decide (requiredLength kind ≠ some length.toNat)
  | .readRecord data => dataFits data
  | .writeRecord data => dataFits data
  | .driveOutputs data => dataFits data
  | .unknownCommand code data => decide (code ≠ 1 ∧ code ≠ 2 ∧ code ≠ 3) && dataFits data
  | .messageIncomplete bytes => incompleteMessage bytes
  | .powerOnReset _ => true
  | .rawInputChange _ _ => true
  | .settleExpiry _ => true
  | .burstTimerExpiry => true
  | .decayExpiry => true
  | .silenceTimerExpiry _ => true
  | .markReceived _ _ => true
  | .quietExpiry => true
  | .gatherEnd => true
  | .roundClose => true
  | .tallyReceived _ _ => true
  | .nudgeReceived _ _ => true
  | .presetReceived _ _ => true
  | .scheduleReceived _ _ => true
  | .orderReceived _ _ => true
  | .duplicateInAttempt => true
  | .orderTimeout => true
  | .localRound => true
  | .occupancyAssertion => true
  | .occupancyRelease => true
  | .holdTimerExpiry => true
  | .residencyMet => true
  | .fadeStep => true
  | .sensorRead _ => true
  | .keyPress _ => true
  | .attemptStart => true
  | .arbitrationLoss => true
  | .acknowledged => true
  | .unacknowledged => true
  | .backoffEnd => true
  | .lineIdle => true
  | .lostStep => true
  | .resynchronisationSilence => true
  | .promotion _ => true
  | .beaconExpiry => true
  | .writeComplete => true
  | .startBit => true
  | .replySent => true
  | .resetStart => true

end Sys2Proof
end

