-- ==== Sys2Proof/Tests/Slice0.lean ====
section
/-! SUPPORT. Small tests of single steps against the manual's own tables and worked cases, the refusals of the well-formedness
checks, and a witness for the hypotheses of each statement. -/

namespace Sys2Proof.Tests

open Sys2Proof.Machine

-- Many small kernel evaluations: one after another, or the threads that wait for the kernel fill the memory.
set_option Elab.async false

/-! ### States the tests start from -/

/-- The parameters of the worked cases (2.7, 5.10, 10.1), for a cell number. -/
def paramsOf (own : Station) : Params :=
  { own := own, gateways := [4090], settle := 20, quiet := 6, gather := 4, control := 30, burst := 60, churnThreshold := 3,
    churnDepth := 4, churnDecay := 5, kp := 20, ki := 5, deadband := 5, setback := 20, tempPref := 215, lightPref := 700,
    standby := 200, fadeRate := 100, minFlow := 200, maxFlow := 900, heatFlow := 400, occupancyHold := 15, minResidency := 5 }

def wall : Edge := Edge.unused

/-- A fixed open edge to an ACTIVE neighbour whose stored advert says OPEN. -/
def openTo (n : Station) (l : Label) : Edge :=
  { Edge.unused with
    kind := .fixedOpen, neighbour := some n, status := .active, silence := some 100,
    advert := some ⟨l.epoch, l.root, l.hops, .opened⟩, effective := .opened }

/-- An owned track with its panel in, to an ACTIVE neighbour whose stored advert says CLOSED. -/
def panelTo (n : Station) : Edge :=
  { Edge.unused with
    kind := .trackOwned, neighbour := some n, raw := .active, sensed := .present, applied := .present, status := .active,
    silence := some 100, advert := some ⟨117, 342, 0, .closed⟩ }

/-- The mirror of a track with its panel in. -/
def mirrorTo (n : Station) : Edge :=
  { Edge.unused with
    kind := .trackMirror, neighbour := some n, status := .active, silence := some 100, advert := some ⟨117, 277, 0, .closed⟩ }

/-- Cell 341: a mirror in the north, an owned track in the east, a wall in the south and an open edge to the root in the
west. -/
def memberEdges : PerDir Edge := ⟨mirrorTo 277, panelTo 342, wall, openTo 340 ⟨117, 340, 0⟩⟩

/-- Cell 341 in epoch 117 under root 340, at rest in a given role. -/
def cellIn (role : Role) : State :=
  { State.reset with
    role := role
    params := paramsOf 341
    edges := memberEdges
    label := ⟨117, 340, 1⟩
    cell := { Cell.uncommissioned with
      tempPref := 215, lightPref := 700, lastDemand := -175, damper := 323, temperature := some 228 }
    light := { target := 700, output := 700, phase := 0 }
    line := { Line.unused with view := .idle, generator := 342 } }

def ordered : Order :=
  { epoch := 117, source := 340, round := 12, kind := .control, census := 4, setpoint := 215, lightPref := 700,
    lightTarget := 700, occupancy := .vacant, demand := -175 }

def settling : State := { cellIn .settling with quiet := some 0 }

def withCell (f : Cell → Cell) (s : State) : State := { s with cell := f s.cell }

def await : State := withCell (fun c => { c with orderTimer := some 9 }) (cellIn .await)

def member : State :=
  withCell (fun c => { c with orderTimer := some 9, lastOrder := some ordered, lastAnswered := some ⟨117, 340, 12⟩ })
    (cellIn .member)

def orphan : State := withCell (fun c => { c with localRound := some 0, localIntegrator := -1 }) (cellIn .orphan)

def muted : State :=
  { withCell (fun c => { c with localRound := some 0 }) (cellIn .mute) with line := { (cellIn .mute).line with mute := true } }

/-- Cell 341 alone behind walls, its own root in epoch 117. -/
def alone (role : Role) : State :=
  { cellIn role with edges := ⟨wall, wall, wall, wall⟩, label := ⟨117, 341, 0⟩ }

def entryOf (c : Station) (t : Int) (occ : Bool) (f : Freshness) (mark : Bool) : Entry :=
  { cell := c, freshness := f, marked := mark, temperature := some t, occupied := occ, tempPref := 210, lightPref := 700,
    lastDemand := -300, sensorFault := false }

/-- The record of a zone born before the last close: VACANT, integrator 85, demand -175 (5.10). -/
def running : Zone :=
  { epoch := 117, round := 1, setpoint := 215, lightPref := 700, lightTarget := 200, occupancy := .vacant,
    residency := .stopped, integrator := 85, demand := -175, census := 2, preset := ⟨none, none⟩, adjust := ⟨0, 0⟩,
    roll := [entryOf 300 228 false .fresh true, entryOf 341 228 false .fresh false], gather := none, roundTimer := some 0 }

def gathering : Zone :=
  { epoch := 117, round := 0, setpoint := 215, lightPref := 700, lightTarget := 0, occupancy := .vacant, residency := .stopped,
    integrator := 0, demand := 0, census := 1, preset := ⟨none, none⟩, adjust := ⟨0, 0⟩, roll := [], gather := some 0,
    roundTimer := none }

def headRun : State :=
  { withCell (fun c => { c with lastOrder := some (zoneOrder 341 .control running) }) (alone .headRun) with
    zone := some running }

def headGather : State :=
  { withCell (fun c => { c with lastOrder := some (zoneOrder 341 .call gathering) }) (alone .headGather) with
    zone := some gathering }

def withZone (f : Zone → Zone) (s : State) : State := { s with zone := s.zone.map f }

/-- A head in an OCCUPIED zone, its residency counting. -/
def headOccupied : State :=
  withZone (fun z => { z with occupancy := .occupied, residency := .counting 7, lightTarget := 700 }) headRun

/-- Its own MARK on the line, with the retry count given. -/
def attempting (retries : Nat) (s : State) : State :=
  { s with
    slots := { s.slots with mark := some { freshFrame (formMark s) with inAttempt := true, retries := retries, losses := 7 } }
    line := { s.line with
      view := .busy
      attempt := some { slot := .mark, frame := lineFrame 3 s.params.own 1 (bytesOf 8 (markPayload (formMark s))) } } }

def inView (v : LineView) (s : State) : State := { s with line := { s.line with view := v } }

def serving : State := { State.reset with role := .service, store := { Store.new with lock := false } }

/-- Two-byte field of a record. -/
def two (n : Nat) : List Nat := [n / 256, n % 256]

/-- A record with the defaults of 10.1 and its check, for a row, a column, four edge kinds and the fields of R173's table. -/
def recordWith (row col : Nat) (kinds : List Nat) (gateways control threshold depth minF maxF heatF : Nat) : List Byte :=
  let body := ([row, col] ++ kinds ++ [gateways] ++ two 4090 ++ two 4091 ++ [20, 6, 4, control] ++ two 60
    ++ [threshold, depth, 10, 20, 5, 5, 20] ++ two 215 ++ two 700 ++ two 200 ++ two 100 ++ two minF ++ two maxF ++ two heatF
    ++ [15, 5]).map (BitVec.ofNat 8)
  let check := (crc16 (bitsOfBytes body)).toNat
  body ++ (two check).map (BitVec.ofNat 8)

/-- A good record for cell 341 (row 5, column 21). -/
def record341 : List Byte := recordWith 5 21 [3, 2, 0, 1] 1 30 5 8 200 900 400

def stored : State := { State.reset with store := { bytes := record341, written := true, lock := true } }

def inputs (jumper : Bool) : StartInputs :=
  { jumper := jumper, tracks := ⟨.inactive, .active, .inactive, .inactive⟩, contact := true, keysDown := [.warmer],
    sensor := .reading 215 }

/-- The state a command leads to. -/
def after (c : Instr) (s : State) : State :=
  match exec c s with
  | .next t => t
  | .fault _ => s
  | .refused _ => s

/-- The state a step leads to. -/
def stepped (s : State) : State :=
  match step s with
  | .next t => t
  | .fault _ => s
  | .refused _ => s

/-! ### Well-formedness: each check refuses an ill-formed command -/

theorem test_wellFormed_refuses :
    Instr.wellFormed (.unknownKindFrame 5 1 8) = false ∧ Instr.wellFormed (.unknownKindFrame 5 2 12) = false
    ∧ Instr.wellFormed (.unknownKindFrame 5 3 12) = false ∧ Instr.wellFormed (.unknownKindFrame 5 4 7) = false
    ∧ Instr.wellFormed (.unknownKindFrame 5 5 8) = false ∧ Instr.wellFormed (.unknownKindFrame 5 6 1) = false
    ∧ Instr.wellFormed (.readRecord (List.replicate 256 0)) = false
    ∧ Instr.wellFormed (.writeRecord (List.replicate 256 0)) = false
    ∧ Instr.wellFormed (.driveOutputs (List.replicate 256 0)) = false
    ∧ Instr.wellFormed (.unknownCommand 1 []) = false ∧ Instr.wellFormed (.unknownCommand 2 []) = false
    ∧ Instr.wellFormed (.unknownCommand 3 []) = false ∧ Instr.wellFormed (.unknownCommand 4 (List.replicate 256 0)) = false
    ∧ Instr.wellFormed (.messageIncomplete []) = false ∧ Instr.wellFormed (.messageIncomplete [1, 0]) = false
    ∧ Instr.wellFormed (.messageIncomplete [1, 1, 7]) = false := by decide +kernel

theorem test_wellFormed_takes :
    Instr.wellFormed (.unknownKindFrame 5 1 7) = true ∧ Instr.wellFormed (.unknownKindFrame 5 0 8) = true
    ∧ Instr.wellFormed (.readRecord (List.replicate 255 0)) = true ∧ Instr.wellFormed (.unknownCommand 4 []) = true
    ∧ Instr.wellFormed (.messageIncomplete [1]) = true ∧ Instr.wellFormed (.messageIncomplete [2, 42, 0]) = true := by
  decide +kernel

/-- No row of the table gives bits. -/
theorem test_no_word_spells_a_command : decodeTableWord 32 0x12345678 = none ∧ (State.reset).withFetchWord 8 1 = State.reset := by
  decide +kernel

/-! ### The tables of the manual -/

/-- R35's table. -/
theorem test_epoch_table :
    newer 119 117 = true ∧ newer 3 4090 = true ∧ newer 119 0 = true ∧ newer 0 119 = false ∧ newer 2048 0 = true
    ∧ newer 0 2048 = false ∧ newer 1500 0 = true ∧ newer 3000 1500 = true ∧ newer 0 3000 = true := by decide +kernel

/-- R86's and R87's tables. -/
theorem test_means :
    zoneTemperature [some 232, some 230, some 228, some 221] = some 228
    ∧ zoneTemperature [some 229, some 231, some 228, some 226] = some 229 ∧ zoneTemperature [some 15, some (-20)] = some (-3)
    ∧ zoneTemperature [some 240, none, none] = some 240 ∧ zoneTemperature [none, none] = none
    ∧ meanPreference [210, 210, 210, 230] = 215 ∧ meanPreference [215, 220] = 218 ∧ meanPreference [700, 800, 600] = 700
    ∧ meanDemand [-301, -300] = -301 ∧ meanDemand [-300, -300, -300, 200] = -175 := by decide +kernel

/-- R88's and R89's tables. -/
theorem test_errors :
    climateError 215 (some 228) 5 = -13 ∧ climateError 230 (some 229) 5 = 0 ∧ climateError 215 (some 430) 5 = -200
    ∧ climateError 300 (some (-100)) 25 = 200 ∧ climateError 215 (some 236) 25 = 0 ∧ climateError 215 (some 220) 5 = 0
    ∧ climateError 215 none 5 = 0
    ∧ effectiveDeadband (paramsOf 1) .occupied .night = 5 ∧ effectiveDeadband (paramsOf 1) .vacant .day = 5
    ∧ effectiveDeadband (paramsOf 1) .vacant .evening = 25 ∧ effectiveDeadband (paramsOf 1) .vacant .night = 25 := by
  decide +kernel

/-- R91's and R92's tables. -/
theorem test_integrator :
    integratorSeed (-175) (-260) = 85 ∧ demandOf (-260) 85 = -175 ∧ integratorSeed (-900) 400 = -1000
    ∧ demandOf 400 (-1000) = -600 ∧ integratorSeed 800 (-4000) = 1000 ∧ demandOf (-4000) 1000 = -1000
    ∧ integralIncrement (paramsOf 1) (-13) = -6 ∧ integralIncrement (paramsOf 1) (-45) = -22
    ∧ integratorNext (-260) 85 (-6) = 79 ∧ integratorNext (-4000) (-300) (-100) = -300
    ∧ integratorNext (-900) (-300) (-22) = -300 ∧ integratorNext 200 (-1000) 5 = -995 ∧ integratorNext 0 600 0 = 600 := by
  decide +kernel

/-- R128's table. -/
theorem test_damper :
    damperFor (paramsOf 1) (-175) = 323 ∧ damperFor (paramsOf 1) (-1000) = 900 ∧ damperFor (paramsOf 1) 0 = 200
    ∧ damperFor (paramsOf 1) 120 = 400 ∧ reheatFor 120 = 120 ∧ reheatFor (-175) = 0
    ∧ damperFor { paramsOf 1 with minFlow := 0, maxFlow := 1000, heatFlow := 0 } (-333) = 333
    ∧ damperFor { paramsOf 1 with minFlow := 300, maxFlow := 300, heatFlow := 300 } (-500) = 300 := by decide +kernel

/-- R173's table. -/
theorem test_clamped_records :
    (loadParams (recordWith 5 21 [0, 0, 0, 7] 3 5 12 9 600 400 900)).churnThreshold = 9
    ∧ (loadParams (recordWith 5 21 [0, 0, 0, 7] 3 5 0 0 1200 1500 0)).churnThreshold = 1
    ∧ (loadParams (recordWith 5 21 [0, 0, 0, 7] 3 5 0 0 1200 1500 0)).churnDepth = 1
    ∧ (loadParams (recordWith 5 21 [0, 0, 0, 7] 3 5 12 9 600 400 900)).maxFlow = 600
    ∧ (loadParams (recordWith 5 21 [0, 0, 0, 7] 3 5 12 9 600 400 900)).heatFlow = 600
    ∧ (loadParams (recordWith 5 21 [0, 0, 0, 7] 3 5 0 0 1200 1500 0)).minFlow = 1000
    ∧ (loadParams (recordWith 5 21 [0, 0, 0, 7] 3 5 0 0 1200 1500 0)).heatFlow = 1000
    ∧ (loadParams (recordWith 5 21 [0, 0, 0, 7] 3 5 12 9 600 400 900)).control = 10
    ∧ (loadParams (recordWith 5 21 [0, 0, 0, 7] 3 5 12 9 600 400 900)).gateways = [4090, 4091]
    ∧ startKind 341 (recordWith 5 21 [0, 0, 0, 7] 3 5 12 9 600 400 900) .west = .wall := by decide +kernel

/-- The draws of cells 341 and 404, the first of which is 0 for every cell (8.5, 8.12). -/
theorem test_draws :
    drawCount 342 = 0 ∧ drawCount (drawNext 342) = 0 ∧ drawCount (drawNext (drawNext 342)) = 2
    ∧ drawCount (drawNext (drawNext (drawNext 342))) = 5 ∧ drawCount 405 = 0 ∧ drawCount (drawNext 405) = 0 := by
  decide +kernel

/-- The check value of the CRC with this generator and start over the bytes "123456789" (published for CRC-16/IBM-3740, the
manual's parameters in R145), an all-ones register being the check of no bits. -/
theorem test_crc : crc16 (bitsOfBytes [0x31, 0x32, 0x33, 0x34, 0x35, 0x36, 0x37, 0x38, 0x39]) = 0x29B1 ∧ crc16 [] = 0xFFFF := by
  decide +kernel

/-- Payload words laid out by hand from 8.10. -/
theorem test_payload_words :
    markPayload
      { epoch := 0x123, root := 0x456, hops := 249, views := ⟨.closed, .opened, .noView, .opened⟩, role := .headRun,
        churn := 9, hold := true, tempFault := false, mismatch := true, unheard := false } = 0x01230456F9195905#64
    ∧ tallyPayload
      { epoch := 0x123, addressee := 0x456, round := 7, temperature := none, occupied := true, tempPref := 0x12C,
        lightPref := 0x3E8, lastDemand := -1, tempFault := true, hold := false, mismatch := false, unheard := true }
      = 0x9123845607800012C3E8FFFF#96
    ∧ orderPayload
      { epoch := 0x123, source := 340, round := 255, kind := .control, census := 250, setpoint := 0x12C, lightPref := 0x3E8,
        lightTarget := 0xC8, occupancy := .occupied, demand := -2 } = 0xC123FFFA012C03E800C8FFFE#96
    ∧ nudgePayload ⟨0x123, 0x456, ⟨-5, 50⟩⟩ = 0x01230456FB0032#56 := by decide +kernel

/-- A frame on the line: start bit, class, source, kind, length, payload, check, acknowledgement slot, end field: 48 bits and 8
for each payload byte (8.2). -/
theorem test_frame_bits :
    (lineFrame 3 341 1 (bytesOf 8 (markPayload (formMark member)))).bits.length = 48 + 64
    ∧ (lineFrame 3 341 1 []).bits.take 16
      = [false, false, true, true, false, false, false, true, false, true, false, true, false, true, false, true] := by
  decide +kernel

/-! ### The commands against the manual's worked cases -/

/-- Cell 341 whose panel in the east has been lifted for the settle time. -/
def lifted : State := setEdge .east { panelTo 342 with raw := .inactive, settle := some 0 } member

/-- 2.7, t = 20 s: applied, MARK queued, counted; the mirror still says CLOSED, so no edge change. -/
theorem test_settle_applied :
    (edgeAt (after (.settleExpiry .east) lifted) .east).applied = .absent
    ∧ (after (.settleExpiry .east) lifted).churn = ⟨1, some 3750000, some 18750000, false⟩
    ∧ (after (.settleExpiry .east) lifted).slots.mark.isSome = true
    ∧ (after (.settleExpiry .east) lifted).label = ⟨117, 340, 1⟩ := by decide +kernel

/-- 2.7, t = 440 s: in HOLD at the churn depth the track is frozen, the count stays 4, the decay restarts. -/
def held : State := { lifted with churn := ⟨4, none, some 5, true⟩ }

theorem test_settle_in_hold :
    (edgeAt (after (.settleExpiry .east) held) .east).applied = .present
    ∧ (edgeAt (after (.settleExpiry .east) held) .east).sensed = .absent
    ∧ (after (.settleExpiry .east) held).churn = ⟨4, some 3750000, some 18750000, true⟩
    ∧ (after (.settleExpiry .east) held).slots.mark = none := by decide +kernel

/-- Two settled changes frozen in HOLD, one decay before release. -/
def atRelease : State :=
  { setEdge .east { panelTo 342 with raw := .inactive, sensed := .absent } member with churn := ⟨3, none, some 0, true⟩ }

/-- 2.7, t = 740 s and t = 1040 s. -/
theorem test_decay :
    (after .decayExpiry { atRelease with churn := ⟨4, none, some 0, true⟩ }).churn = ⟨3, none, some 18750000, true⟩
    ∧ (after .decayExpiry atRelease).churn = ⟨2, none, some 18750000, false⟩
    ∧ (edgeAt (after .decayExpiry atRelease) .east).applied = .absent
    ∧ (after .decayExpiry atRelease).slots.mark.isSome = true
    ∧ (after .decayExpiry { atRelease with churn := ⟨1, none, some 0, false⟩ }).churn = ⟨0, none, none, false⟩ := by
  decide +kernel

/-- R2: the timer starts on a change and stops on a return. -/
theorem test_raw_change :
    (edgeAt (after (.rawInputChange .east .inactive) member) .east).settle = some 1250000
    ∧ (edgeAt (after (.rawInputChange .east .active) lifted) .east).settle = none := by decide +kernel

/-- 3.10, the fall of an open edge: the cell cut off from its root opens epoch 118 from its own number. -/
theorem test_silence :
    (after (.silenceTimerExpiry .west) member).label = ⟨118, 341, 0⟩
    ∧ (after (.silenceTimerExpiry .west) member).role = .settling := by decide +kernel

/-- 9.6: the MARK of a label change shows the new label in SETTLING, and a head's MARK has hops 0 (R171): a head that follows a
better root at hops 1 sends no HEAD_RUN with it. -/
theorem test_label_change_mark :
    (after (.silenceTimerExpiry .west) member).slots.mark.map (fun f => (f.content.epoch.toNat, f.content.hops, f.content.role))
      = some (118, 0, .settling)
    ∧ (labelChange ⟨118, 340, 1⟩ headRun).slots.mark.map (fun f => (f.content.hops, f.content.role)) = some (1, .settling)
    ∧ (labelChange ⟨118, 340, 1⟩ muted).slots.mark.map (fun f => (f.content.hops, f.content.role)) = some (1, .mute) := by
  decide +kernel

/-- R40, R41, R43: a newer epoch adopted, an older one answered, the root's own new label followed at hops 1. -/
theorem test_mark_received :
    (after (.markReceived 340 (markPayload { formMark (cellIn .member) with
      epoch := 119, hops := 0, views := ⟨.closed, .opened, .closed, .closed⟩ })) member).label = ⟨119, 340, 1⟩
    ∧ (after (.markReceived 340 (markPayload { formMark (cellIn .member) with
      epoch := 116, hops := 0, views := ⟨.closed, .opened, .closed, .closed⟩ })) member).label = ⟨117, 340, 1⟩
    ∧ (edgeAt (after (.unknownKindFrame 340 0 0) member) .west).silence = some 1250000 := by
  decide +kernel

/-- 5.10, birth of a merged zone: A1 is cell 341, with A2, A3 and B1 in the roll. -/
def merging : State :=
  withZone (fun z => { z with roll := [entryOf 300 230 false .fresh true, entryOf 301 228 false .fresh true,
      { entryOf 302 221 false .fresh true with tempPref := 230, lightPref := 800, lastDemand := 200 }] })
    (withCell (fun c => { c with tempPref := 210, lightPref := 700, lastDemand := -300, temperature := some 232 }) headGather)

theorem test_birth :
    (after .gatherEnd merging).zone.map (fun z => (z.setpoint, z.lightPref, z.integrator, z.demand)) = some (215, 725, 85, -175)
    ∧ (after .gatherEnd merging).zone.map (fun z => (z.census, z.round.toNat)) = some (4, 1)
    ∧ (after .gatherEnd merging).cell.damper = 323 ∧ (after .gatherEnd merging).role = .headRun := by decide +kernel

/-- 5.10, the close of round 1: I 79, D -181, damper 327. -/
theorem test_round_close :
    (after .roundClose headRun).zone.map (fun z => (z.integrator, z.demand, z.round.toNat)) = some (79, -181, 2)
    ∧ (after .roundClose headRun).cell.damper = 327 := by decide +kernel

/-- A TALLY of the open round from cell 300. -/
def present : Tally :=
  { epoch := 117, addressee := 341, round := 1, temperature := some 230, occupied := true, tempPref := 220, lightPref := 650,
    lastDemand := -100, tempFault := false, hold := false, mismatch := false, unheard := false }

/-- HEAD_RUN after it. -/
def entered : State := after (.tallyReceived 300 (tallyPayload present)) headRun

/-- 6.9, t = 0.02 s: the extra TALLY turns the zone OCCUPIED, Lz becomes Lp, and an immediate ORDER of the same round carries
them with the D of the last close. -/
theorem test_tally_occupies :
    entered.zone.map (fun z => (z.occupancy, z.lightTarget, z.residency))
      = some (.occupied, 700, .counting 0)
    ∧ entered.slots.order.map (fun f => (f.content.round.toNat, f.content.demand))
      = some (1, -175) := by decide +kernel

/-- The merging zone with a pending preset setpoint and a pending temperature adjust. -/
def mergingWith (sp adjust : Int) : State :=
  withZone (fun z => { z with preset := ⟨some sp, none⟩, adjust := ⟨adjust, 0⟩ }) merging

/-- R69: a preset setpoint of 230 with a pending adjust of -10 gives S 220; 295 and +10 give 300. -/
theorem test_preset_and_adjust :
    (after .gatherEnd (mergingWith 230 (-10))).cell.tempPref = 220
    ∧ (after .gatherEnd (mergingWith 295 10)).cell.tempPref = 300 := by decide +kernel

/-- R74, R75: a nudge past the limit, and a PRESET of a listed and of an unlisted gateway. -/
theorem test_nudge_and_preset :
    (after (.nudgeReceived 300 (nudgePayload ⟨117, 341, ⟨-5, 100⟩⟩)) headRun).cell.tempPref = 210
    ∧ (after (.presetReceived 4090 (0x0075#16 ++ 0x0155#16 ++ 230#16 ++ 0#16)) headRun).cell.tempPref = 230
    ∧ (after (.presetReceived 4091 (0x0075#16 ++ 0x0155#16 ++ 230#16 ++ 0#16)) headRun).cell.tempPref = 215 := by decide +kernel

/-- R167: code 1 is EVENING; 3 names no mode. -/
theorem test_schedule :
    (after (.scheduleReceived 4090 1) orphan).floorMode = .evening ∧ (after (.scheduleReceived 4090 1) orphan).light.target = 0
    ∧ (after (.scheduleReceived 4090 3) orphan).floorMode = .day := by decide +kernel

/-- AWAIT after a CONTROL ORDER of round 1 with setpoint 220 and demand 120. -/
def accepted : State :=
  after (.orderReceived 340 (orderPayload { ordered with round := 1, setpoint := 220, demand := 120 })) await

/-- 7.13: a CONTROL ORDER accepted in AWAIT: answered, applied, MEMBER; a CALL changes no output. -/
theorem test_order_accepted :
    accepted.role = .member
    ∧ accepted.cell.damper = 400
    ∧ accepted.cell.reheat = 120
    ∧ accepted.slots.tally.map (fun f => (f.content.round.toNat, f.content.lastDemand)) = some (1, -175)
    ∧ (after (.orderReceived 340 (orderPayload { ordered with round := 0, kind := .call, demand := 9 })) await).cell.damper
      = 323 := by
  decide +kernel

/-- The cell of 5.10's orphan: occupied, at a temperature. -/
def occupiedAt (temp : Int) (s : State) : State := withCell (fun c => { c with temperature := some temp, occupied := true }) s

/-- 5.10, an orphan: entry at temperature 224 keeps -181 with I -1; the local round at 222 gives I -4, D -144. -/
theorem test_orphan :
    (after .orderTimeout (occupiedAt 224 (withCell (fun c => { c with lastDemand := -181 }) member))).cell.lastDemand = -181
    ∧ (after .orderTimeout (occupiedAt 224 (withCell (fun c => { c with lastDemand := -181 }) member))).cell.localIntegrator
      = -1
    ∧ (after .localRound (occupiedAt 222 orphan)).cell.localIntegrator = -4
    ∧ (after .localRound (occupiedAt 222 orphan)).cell.lastDemand = -144 := by decide +kernel

/-- 6.9, t = 0.00 s: the onset at a member lights it and queues the extra TALLY of the last ORDER's round. -/
theorem test_onset :
    (after .occupancyAssertion { member with light := ⟨0, 0, 0⟩ }).light.target = 700
    ∧ (after .occupancyAssertion member).slots.tally.map (fun f => (f.content.round.toNat, f.content.occupied)) = some (12, true)
    ∧ (after .occupancyRelease (after .occupancyAssertion member)).cell.hold = .running 56250000 := by decide +kernel

/-- R116, R130, R136: one permille a step, a reading out of range, a press at the limit. -/
theorem test_small_steps :
    (after .fadeStep { member with light := ⟨700, 0, 62500⟩ }).light = ⟨700, 1, 0⟩
    ∧ (after (.sensorRead (.reading 601)) member).cell.temperature = none
    ∧ (after (.sensorRead (.reading (-100))) member).cell.temperature = some (-100)
    ∧ (after (.keyPress .warmer) (withCell (fun c => { c with tempPref := 300 }) orphan)).cell.tempPref = 300
    ∧ (after (.keyPress .warmer) member).cell.outstanding = some ⟨5, 0⟩ := by decide +kernel

/-- A NUDGE of +5 is outstanding when its sender becomes ORPHAN, a member again, and has `again` pressed since. -/
def spentNudge (again : Deltas) : State :=
  withCell (fun c => { c with nudge := again }) { after .orderTimeout (after (.keyPress .warmer) member) with role := .member }

/-- R135: the presses of a NUDGE outstanding at the entry to ORPHAN are applied there, and not subtracted when its flight ends. -/
theorem test_spent_nudge :
    (after .orderTimeout (after (.keyPress .warmer) member)).cell.tempPref = 220
    ∧ (flightEnd (spentNudge ⟨0, 0⟩)).cell.nudge = ⟨0, 0⟩ ∧ (flightEnd (spentNudge ⟨0, 0⟩)).cell.outstanding = none
    ∧ (flightEnd (spentNudge ⟨10, 0⟩)).cell.outstanding = some ⟨10, 0⟩
    ∧ (flightEnd (after (.keyPress .warmer) member)).cell.nudge = ⟨0, 0⟩ := by decide +kernel

/-- A PRESET payload by hand from 8.10: reserved bits set, epoch 0x123, addressee 0x456, setpoint 215, light 700 (R163, R169); the
bytes of a slot's payload, first byte first. -/
theorem test_preset_and_slot_bytes :
    presetOf 0xF123F45600D702BC#64 = ⟨0x123, 0x456, 215, 700⟩
    ∧ slotPayload { member.slots with nudge := some (freshFrame ⟨0x123, 0x456, ⟨-5, 50⟩⟩) } .nudge
      = [0x01, 0x23, 0x04, 0x56, 0xFB, 0x00, 0x32] := by decide +kernel

/-- R159: a promotion during the attempt ages its frame, and a retry or the attempt after a loss goes out at the lower class. -/
theorem test_promotion_in_attempt :
    (after (.promotion .mark) (attempting 0 member)).line.attempt = (attempting 0 member).line.attempt
    ∧ selectSlot (after .unacknowledged (after (.promotion .mark) (attempting 0 member))).slots = some (.mark, 2, 2500)
    ∧ selectSlot (after .unacknowledged (attempting 0 member)).slots = some (.mark, 3, 0) := by decide +kernel

/-- R147 to R149: a frame with the cell's own number puts it into MUTE. -/
theorem test_duplicate :
    (after (.markReceived 341 0) headRun).role = .mute ∧ (after (.markReceived 341 0) headRun).zone = none
    ∧ (after .duplicateInAttempt (attempting 0 member)).role = .mute
    ∧ (after .duplicateInAttempt (attempting 0 member)).line.attempt = none
    ∧ (after .duplicateInAttempt (attempting 0 member)).slots.mark.map (fun f => (f.inAttempt, f.losses)) = some (false, 0) := by
  decide +kernel

/-- 8.12 and R151, R152, R160: a first draw is 0, the eighth loss locks out, the fourth failure drops the frame. -/
theorem test_attempt_ends :
    (after .arbitrationLoss (attempting 0 member)).line.backoff = some 0
    ∧ (after .arbitrationLoss (attempting 0 member)).slots.mark.map (fun f => (f.losses, f.lockout)) = some (8, true)
    ∧ (after .unacknowledged (attempting 2 member)).slots.mark.map (fun f => (f.losses, f.retries)) = some (0, 3)
    ∧ (after .unacknowledged (attempting 3 member)).slots.mark = none
    ∧ (after .unacknowledged (attempting 3 member)).line.unheard = true
    ∧ (after .acknowledged (attempting 0 member)).line.beacon = some 312500 := by decide +kernel

/-- 8.12: the ORDER, base class 2, is selected before the MARK and the TALLY; a MARK aged 40 ms takes class 2 and the older of
two frames of one class goes first (R156, R159). -/
def threeFrames : State :=
  { member with slots :=
    { order := some (freshFrame ordered), mark := some (freshFrame (formMark member)), nudge := none,
      tally := some (freshFrame (formTally 40 member)) } }

theorem test_selection :
    selectSlot threeFrames.slots = some (.order, 2, 0)
    ∧ selectSlot (after (.promotion .mark) threeFrames).slots = some (.mark, 2, 2500)
    ∧ (after .attemptStart threeFrames).line.view = .busy
    ∧ (after .attemptStart { threeFrames with line := { threeFrames.line with backoff := some 16 } }).line.view = .idle := by
  decide +kernel

/-- R175 to R177: the three ways a start ends. -/
theorem test_start :
    (after (.powerOnReset (inputs false)) stored).role = .settling
    ∧ (after (.powerOnReset (inputs false)) stored).label = ⟨0, 341, 0⟩
    ∧ (after (.powerOnReset (inputs true)) stored).role = .service
    ∧ (after (.powerOnReset (inputs false)) State.reset).role = .uncommissioned
    ∧ (after .resetStart member).light.output = 0 := by decide +kernel

/-- R178, R179: a record written and read back; a wrong check; a wrong length; a locked port. -/
theorem test_service_port :
    (after .writeComplete (after (.writeRecord record341) serving)).store = ⟨record341, true, false⟩
    ∧ (after (.writeRecord record341) serving).store.written = false
    ∧ (after (.writeRecord (List.replicate 42 0)) serving).port = .replying ⟨.badCheck, []⟩
    ∧ (after (.readRecord []) serving).port = .replying ⟨.ok, List.replicate 42 0xFF⟩
    ∧ (after (.driveOutputs [1]) serving).port = .replying ⟨.badLength, []⟩
    ∧ (after (.driveOutputs [3, 232, 1, 0, 255, 255]) serving).cell.reheat = 1000
    ∧ (after (.readRecord []) member).port = .replying ⟨.locked, []⟩ := by decide +kernel

/-! ### Witnesses: concrete states that meet the hypotheses of each statement, clause by clause -/

/-- A result is a next state. -/
def isNext : Result → Bool
  | .next _ => true
  | .fault _ => false
  | .refused _ => false

theorem exec_after (c : Instr) (s : State) (h : isNext (exec c s) = true) : exec c s = .next (after c s) := by
  revert h
  unfold after
  cases exec c s <;> simp [isNext]

theorem step_stepped (s : State) (h : isNext (step s) = true) : step s = .next (stepped s) := by
  revert h
  unfold stepped
  cases step s <;> simp [isNext]

theorem witness_StepRunsTheFrontCommand :
    { member with pending := [.fadeStep, .orderTimeout] }.pending = Instr.fadeStep :: [.orderTimeout] := rfl

/-- Two events due at once. -/
def tied : State := { settling with churn := ⟨1, some 0, some 5, false⟩ }

/-- R116, R153 and the expiries: what is due in a few states, and nothing one bit time before a fade step. -/
theorem test_due_events :
    dueCommands tied = [.burstTimerExpiry, .quietExpiry] ∧ dueCommands headRun = [.roundClose]
    ∧ dueCommands headGather = [.gatherEnd] ∧ dueCommands orphan = [.localRound] ∧ dueCommands threeFrames = [.attemptStart]
    ∧ dueCommands { member with line := { member.line with backoff := some 0 } } = [.backoffEnd]
    ∧ dueCommands { member with light := ⟨700, 0, 62500⟩ } = [.fadeStep]
    ∧ dueCommands { member with light := ⟨700, 0, 62499⟩ } = [] := by decide +kernel

theorem witness_EmptyQueueRunsTheClock :
    State.reset.pending = [] ∧ dueCommands State.reset = [] ∧ settling.pending = [] ∧ dueCommands settling = [.quietExpiry]
    ∧ tied.pending = [] ∧ 2 ≤ (dueCommands tied).length := by decide +kernel

/-- A cell in MUTE with a frame in every slot. -/
def mutedFull : State :=
  { muted with slots := { threeFrames.slots with nudge := some (freshFrame ⟨117, 340, ⟨5, 0⟩⟩) } }

theorem witness_MuteLastsUntilReset :
    (mutedFull.role = .mute ∧ mutedFull.lineSound ∧ mutedFull.slots.order.isSome = true ∧ mutedFull.slots.mark.isSome = true
      ∧ mutedFull.slots.nudge.isSome = true ∧ mutedFull.slots.tally.isSome = true ∧ mutedFull.line.view ≠ .resync)
    ∧ exec .attemptStart mutedFull = .next (after .attemptStart mutedFull)
    ∧ exec (.scheduleReceived 4090 1) mutedFull = .next (after (.scheduleReceived 4090 1) mutedFull) :=
  ⟨by decide +kernel, exec_after _ _ (by decide +kernel), exec_after _ _ (by decide +kernel)⟩

theorem witness_BlocksRestOutsideOperation :
    State.reset.role.operating = false ∧ serving.role.operating = false ∧ serving.role ≠ .uncommissioned
    ∧ (after .resetStart member).role.operating = false := by decide +kernel

theorem witness_RecordAndParametersAreKept :
    exec (.writeRecord record341) serving = .next (after (.writeRecord record341) serving)
    ∧ recordCheck record341 = true ∧ exec .roundClose headRun = .next (after .roundClose headRun) :=
  ⟨exec_after _ _ (by decide +kernel), by decide +kernel, exec_after _ _ (by decide +kernel)⟩

/-- The same state with one command waiting. -/
def waiting (c : Instr) (s : State) : State := { s with pending := [c] }

theorem witness_StepKeepsRanges :
    (waiting .roundClose headRun).inRange ∧ (waiting .roundClose headRun).rollSound
    ∧ step (waiting .roundClose headRun) = .next (stepped (waiting .roundClose headRun)) :=
  ⟨⟨by decide +kernel, by decide +kernel, by decide +kernel⟩, by decide +kernel, step_stepped _ (by decide +kernel)⟩

theorem witness_StepKeepsOutputsMapped :
    (waiting .roundClose headRun).outputsMapped ∧ (waiting .roundClose headRun).lockSound
    ∧ step (waiting .roundClose headRun) = .next (stepped (waiting .roundClose headRun)) :=
  ⟨by decide +kernel, by decide +kernel, step_stepped _ (by decide +kernel)⟩

theorem witness_StepKeepsLabelAndEffectiveStates :
    (waiting (.silenceTimerExpiry .west) member).labelSound ∧ (waiting (.silenceTimerExpiry .west) member).effectiveSound
    ∧ step (waiting (.silenceTimerExpiry .west) member) = .next (stepped (waiting (.silenceTimerExpiry .west) member)) :=
  ⟨by decide +kernel, by decide +kernel, step_stepped _ (by decide +kernel)⟩

theorem witness_StepKeepsChurnSound :
    (waiting .decayExpiry atRelease).churnSound
    ∧ step (waiting .decayExpiry atRelease) = .next (stepped (waiting .decayExpiry atRelease)) :=
  ⟨by decide +kernel, step_stepped _ (by decide +kernel)⟩

theorem witness_StepKeepsTimersSound :
    (waiting .orderTimeout member).timersSound ∧ (waiting .orderTimeout member).edgeTimersSound ∧ lifted.edgeTimersSound
    ∧ step (waiting .orderTimeout member) = .next (stepped (waiting .orderTimeout member)) :=
  ⟨by decide +kernel, by decide +kernel, by decide +kernel, step_stepped _ (by decide +kernel)⟩

theorem witness_StepKeepsZoneAndRoll :
    (waiting .roundClose headRun).zoneSound ∧ (waiting .roundClose headRun).rollSound
    ∧ step (waiting .roundClose headRun) = .next (stepped (waiting .roundClose headRun)) :=
  ⟨by decide +kernel, by decide +kernel, step_stepped _ (by decide +kernel)⟩

theorem witness_StepKeepsHeadAndMemberOrders :
    (waiting .gatherEnd headGather).headFollows ∧ (waiting .gatherEnd headGather).memberFollows
    ∧ headRun.headFollows ∧ member.memberFollows
    ∧ step (waiting .gatherEnd headGather) = .next (stepped (waiting .gatherEnd headGather)) :=
  ⟨by decide +kernel, by decide +kernel, by decide +kernel, by decide +kernel, step_stepped _ (by decide +kernel)⟩

theorem witness_StepKeepsLineSound :
    (waiting .arbitrationLoss (attempting 3 member)).lineSound ∧ (waiting .arbitrationLoss (attempting 3 member)).slotsInRange
    ∧ (waiting .arbitrationLoss (attempting 3 member)).generatorSound
    ∧ step (waiting .arbitrationLoss (attempting 3 member))
      = .next (stepped (waiting .arbitrationLoss (attempting 3 member))) :=
  ⟨by decide +kernel, by decide +kernel, by decide +kernel, step_stepped _ (by decide +kernel)⟩

/-- A write in progress. -/
def writing : State := after (.writeRecord record341) serving

theorem witness_StepKeepsStoreLocked :
    (waiting .writeComplete writing).lockSound ∧ (waiting .writeComplete writing).storeSound
    ∧ step (waiting .writeComplete writing) = .next (stepped (waiting .writeComplete writing)) :=
  ⟨by decide +kernel, by decide +kernel, step_stepped _ (by decide +kernel)⟩

theorem witness_StepKeepsCellSound :
    (waiting .occupancyAssertion member).occupancySound ∧ (waiting .occupancyAssertion member).nudgeSound
    ∧ (waiting .occupancyAssertion member).sensorSound
    ∧ step (waiting .occupancyAssertion member) = .next (stepped (waiting .occupancyAssertion member)) :=
  ⟨by decide +kernel, by decide +kernel, by decide +kernel, step_stepped _ (by decide +kernel)⟩

theorem witness_MarkPayloadReadsBack :
    { formMark member with hops := 255, churn := 15 }.hops ≤ 255 ∧ { formMark member with hops := 255, churn := 15 }.churn ≤ 15 := by
  decide +kernel

theorem witness_TallyAndNudgePayloadsReadBack :
    ((∀ x ∈ (some 600 : Option Int), Within (-100) 600 x) ∧ (∀ x ∈ (none : Option Int), Within (-100) 600 x)
      ∧ Within 0 4095 present.tempPref ∧ Within 0 4095 4095 ∧ Within (-32768) 32767 present.lastDemand)
    ∧ Within (-128) 127 (-128) ∧ Within (-32768) 32767 32767 := by decide +kernel

theorem witness_OrderPayloadReadsBack :
    ordered.census ≤ 255 ∧ Within 0 65535 ordered.setpoint ∧ Within 0 65535 ordered.lightPref ∧ Within 0 65535 ordered.lightTarget
    ∧ Within (-32768) 32767 ordered.demand := by decide +kernel

theorem witness_RoundingAndMeans :
    0 < 1 ∧ ((0 : Int) ≤ 0) ∧ ((119 : Int) < 120 ∧ (300 : Int) < 301 ∧ Within 120 300 300) ∧ ([some (-100 : Int), none, some 600].filterMap fun t => t) ≠ [] ∧ (∀ x, some x ∈ [some (-100 : Int), none, some 600] → Within (-100) 600 x)
    ∧ ([120, 300] : List Int) ≠ [] ∧ ∀ x ∈ ([120, 300] : List Int), Within 120 300 x := by
  refine ⟨by decide, by decide, by decide, by decide, ?_, by decide, by decide⟩
  intro x hx
  simp only [List.mem_cons, Option.some.injEq, List.not_mem_nil, or_false, reduceCtorEq, false_or] at hx
  rcases hx with rfl | rfl <;> decide

theorem witness_BirthIsBumpless :
    (Within (-5) 5 (clamp (-200) 200 (215 - 220)) ∧ -200 < -(5 : Int) ∧ clamp (-200) 200 (215 - 430) = -200)
    ∧ (Within (-1000) 1000 (-300) ∧ (-4000 + (-300) + (-100) < (-1000 : Int)) ∧ (-100 < (0 : Int)) ∧ (-4000 + (-300) < (0 : Int)))
    ∧ (Within (-1000) 1000 1000 ∧ ¬ (1000 < (0 + 1000 + 0 : Int)))
    ∧ (paramsOf 341).gainsInRange ∧ Within (-1000) 1000 (-175)
    ∧ Within (-1000) 1000 ((-175) - proportional (paramsOf 341) (climateError 215 (some 228) (effectiveDeadband (paramsOf 341) .vacant .day))) :=
  ⟨by decide +kernel, by decide +kernel, by decide +kernel, by decide +kernel, by decide, by decide +kernel⟩

theorem witness_DamperStaysWithinFlows :
    (paramsOf 341).levelsInRange ∧ (Within (-1000) 1000 (-1000) ∧ (-1000 : Int) < 0) ∧ (Within (-1000) 1000 (-1) ∧ (-1 : Int) < 0)
    ∧ Within (-1000) 1000 0 ∧ (Within (-1000) 1000 1 ∧ (0 : Int) < 1) ∧ Within (-1000) 1000 1000 :=
  ⟨by decide +kernel, by decide, by decide, by decide, by decide, by decide⟩

theorem witness_EpochOrderIsTheTable : (2048 : Epoch) ≠ 0 ∧ newer 2048 0 = true ∧ newer 0 2048 = false := by decide +kernel

theorem witness_BestCandidateIsBest :
    candidate member 117 .west = some ⟨117, 340, 1⟩ ∧ better ⟨117, 340, 9⟩ ⟨117, 341, 0⟩ = true
    ∧ better ⟨117, 340, 1⟩ ⟨117, 340, 2⟩ = true ∧ better ⟨117, 341, 0⟩ ⟨117, 340, 9⟩ = false := by decide +kernel

theorem witness_SelectionTakesTheBestFrame :
    selectSlot threeFrames.slots = some (.order, 2, 0) ∧ slotRank threeFrames.slots .tally = some (5, 0)
    ∧ selectSlot member.slots = none ∧ (freshFrame (formMark member)).lockout = false
    ∧ (freshFrame (formMark member)).inAttempt = false ∧ { freshFrame (formMark member) with inAttempt := true }.inAttempt = true
    ∧ { freshFrame (formMark member) with lockout := true }.lockout = true := by decide +kernel

theorem witness_RawChangeStartsOrStopsTheSettle :
    (member.role.operating = true ∧ (edgeAt member .east).kind = .trackOwned ∧ Level.inactive ≠ (edgeAt member .east).raw
      ∧ trackOf .inactive ≠ (edgeAt member .east).sensed)
    ∧ (lifted.role.operating = true ∧ (edgeAt lifted .east).kind = .trackOwned ∧ Level.active ≠ (edgeAt lifted .east).raw
      ∧ trackOf .active = (edgeAt lifted .east).sensed
      ∧ trackOf (edgeAt lifted .east).raw ≠ (edgeAt lifted .east).sensed)
    ∧ (edgeAt member .north).kind = .trackMirror := by decide +kernel

/-- A panel set into the open owned track in the east of cell 341, whose mirror has echoed OPEN. -/
def inserted : State :=
  setEdge .east { openTo 342 ⟨117, 340, 2⟩ with kind := .trackOwned, raw := .active, settle := some 0 } member

/-- In HOLD one decay before release, with a settle and the decay timer running out at one moment (R30). -/
def heldDue : State := { lifted with churn := ⟨3, none, some 0, true⟩ }

theorem witness_SettleExpirySettlesTheTrack :
    (held.role.operating = true ∧ (edgeAt held .east).kind = .trackOwned ∧ (edgeAt held .east).settle.isSome = true
      ∧ held.churn.hold = true ∧ held.churn.decay ≠ some 0)
    ∧ (heldDue.role.operating = true ∧ (edgeAt heldDue .east).kind = .trackOwned ∧ (edgeAt heldDue .east).settle.isSome = true
      ∧ heldDue.churn = ⟨3, none, some 0, true⟩ ∧ heldDue.churn.count - 1 < heldDue.params.churnThreshold)
    ∧ (lifted.role.operating = true ∧ (edgeAt lifted .east).kind = .trackOwned ∧ (edgeAt lifted .east).settle.isSome = true
      ∧ lifted.churn.hold = false ∧ trackOf (edgeAt lifted .east).raw ≠ (edgeAt lifted .east).applied
      ∧ effectiveNow { edgeAt lifted .east with applied := .absent } = (edgeAt lifted .east).effective)
    ∧ (inserted.role.operating = true ∧ (edgeAt inserted .east).kind = .trackOwned
      ∧ (edgeAt inserted .east).settle.isSome = true ∧ inserted.churn.hold = false
      ∧ trackOf (edgeAt inserted .east).raw ≠ (edgeAt inserted .east).applied
      ∧ effectiveNow { edgeAt inserted .east with applied := .present } ≠ (edgeAt inserted .east).effective) := by decide +kernel

theorem witness_ChurnEventCountedOrAbsorbed :
    tied.churn.burst.isSome = true ∧ lifted.churn.burst = none ∧ lifted.churn.count ≤ lifted.params.churnDepth
    ∧ held.churn.burst = none ∧ held.churn.count = held.params.churnDepth := by decide +kernel

theorem witness_ChurnTimersExpire :
    (atRelease.role.operating = true ∧ atRelease.churn.decay.isSome = true ∧ atRelease.churn.hold = true
      ∧ atRelease.churn.count - 1 < atRelease.params.churnThreshold)
    ∧ (held.role.operating = true ∧ held.churn.decay.isSome = true ∧ held.churn.hold = true
      ∧ held.params.churnThreshold ≤ held.churn.count - 1)
    ∧ (tied.role.operating = true ∧ tied.churn.decay.isSome = true ∧ tied.churn.hold = false) := by decide +kernel

/-- HOLD with a panel set into an open owned track. -/
def heldInserted : State :=
  { setEdge .east { openTo 342 ⟨117, 340, 2⟩ with kind := .trackOwned, raw := .active, sensed := .present } member with
    churn := ⟨2, none, some 5, true⟩ }

theorem witness_ReleaseCopiesEveryOwnedTrack :
    (allDirs.filter fun d => decide ((edgeAt (releaseHold atRelease) d).effective ≠ (edgeAt atRelease d).effective)) = []
    ∧ (allDirs.filter fun d => decide ((edgeAt (releaseHold heldInserted) d).effective ≠ (edgeAt heldInserted d).effective))
      = [.east]
    ∧ heldInserted.role ≠ .mute ∧ muted.role = .mute
    ∧ (∀ d, ¬ ((edgeAt member d).kind = .trackOwned ∧ (edgeAt member d).sensed ≠ (edgeAt member d).applied))
    ∧ ((edgeAt atRelease .east).kind = .trackOwned ∧ (edgeAt atRelease .east).sensed ≠ (edgeAt atRelease .east).applied) := by
  refine ⟨by decide +kernel, by decide +kernel, by decide +kernel, by decide +kernel, fun d => ?_, by decide +kernel⟩
  cases d <;> decide +kernel

theorem witness_SilenceMakesTheNeighbourLost :
    (member.role.operating = true ∧ (edgeAt member .north).status = .active ∧ (edgeAt member .north).silence.isSome = true
      ∧ (edgeAt member .north).effective = .closed)
    ∧ (edgeAt member .west).status = .active ∧ (edgeAt member .west).silence.isSome = true
    ∧ (edgeAt member .west).effective = .opened := by decide +kernel

/-- A MARK of cell 340 whose east view is OPEN, then CLOSED. -/
def markOpen : BitVec 64 := markPayload { formMark member with hops := 0, views := ⟨.closed, .opened, .closed, .closed⟩ }

def markClosed : BitVec 64 := markPayload { formMark member with hops := 0, views := ⟨.closed, .closed, .closed, .closed⟩ }

/-- Cell 341 with the panel of its east track taken out and settled. -/
def atApplied : State := after (.settleExpiry .east) lifted

theorem witness_NeighbourMarkIsTakenInOrder :
    (member.role.operating = true ∧ member.line.view ≠ .resync ∧ (340 : Station) ≠ member.params.own
      ∧ neighbourDir member 340 = some .west)
    ∧ effectiveNow { edgeAt member .west with advert := some (markAdvert .west markOpen) } = (edgeAt member .west).effective
    ∧ effectiveNow { edgeAt member .west with advert := some (markAdvert .west markClosed) } ≠ (edgeAt member .west).effective
    ∧ ((edgeAt member .south).kind = .wall ∧ (edgeAt member .west).kind = .fixedOpen
      ∧ ((edgeAt member .east).kind = .trackOwned ∧ (edgeAt member .east).applied = .present)
      ∧ (edgeAt atApplied .east).applied = .absent
      ∧ ((edgeAt member .north).kind = .trackMirror ∧ (edgeAt member .north).mirror = .closed)
      ∧ { edgeAt member .north with mirror := .opened }.mirror = .opened
      ∧ { Edge.unused with kind := .boundary }.kind = .boundary) := by decide +kernel

/-- Cell 341 with its root's entry LOST across an edge both sides call open. -/
def lost : State :=
  setEdge .west { openTo 340 ⟨117, 340, 0⟩ with status := .lost, silence := none, effective := .closed } member

theorem witness_UnroutedFrameOnlyRefreshesTheNeighbour :
    (member.role.operating = true ∧ member.line.view ≠ .resync ∧ (999 : Station) ≠ member.params.own
      ∧ neighbourDir member 999 = none)
    ∧ (neighbourDir member 340 = some .west ∧ (edgeAt member .west).status = .active)
    ∧ (lost.role.operating = true ∧ lost.line.view ≠ .resync ∧ (340 : Station) ≠ lost.params.own
      ∧ neighbourDir lost 340 = some .west ∧ (edgeAt lost .west).status ≠ .active
      ∧ effectiveNow { edgeAt lost .west with status := .active, silence := some Config.silenceLimit }
        ≠ (edgeAt lost .west).effective) := by decide +kernel

theorem witness_LabelChangeSettlesTheCell :
    muted.role = .mute ∧ member.role ≠ .mute
    ∧ ∀ d, ∀ a ∈ (edgeAt member d).advert, a.epoch ≠ newestEpoch member + 1 := by
  refine ⟨by decide, by decide, fun d => ?_⟩
  cases d <;> decide +kernel

theorem witness_MarkArrivalByEpoch :
    (edgeAt member .north).effective = .closed ∧ (edgeAt member .west).effective = .opened
    ∧ newer 118 member.label.epoch = true ∧ (⟨117, 340, 0, .opened⟩ : Advert).epoch = member.label.epoch
    ∧ newer member.label.epoch 116 = true := by decide +kernel

/-- Cell 341 at its own number beside root 340, and at a root that no stored advert carries any more. -/
def bettered : State := { member with label := ⟨117, 341, 0⟩ }

def stale : State := setEdge .west (openTo 340 ⟨116, 340, 0⟩) member

theorem witness_RecomputeByTheTable :
    (better (bestLabel bettered bettered.label.epoch) bettered.label = true
      ∧ bettered.label = selfLabel bettered bettered.label.epoch)
    ∧ ((member.label = selfLabel member member.label.epoch ∨ ∃ d, candidate member member.label.epoch d = some member.label)
      ∧ better (bestLabel member member.label.epoch) member.label = false)
    ∧ (¬(stale.label = selfLabel stale stale.label.epoch ∨ ∃ d, candidate stale stale.label.epoch d = some stale.label)
      ∧ better (bestLabel stale stale.label.epoch) stale.label = false) := by
  refine ⟨by decide +kernel, ⟨.inr ⟨.west, by decide +kernel⟩, by decide +kernel⟩, ?_, by decide +kernel⟩
  rintro (h | ⟨d, h⟩)
  · exact absurd h (by decide +kernel)
  · cases d <;> exact absurd h (by decide +kernel)

theorem witness_QuietExpiryMakesHeadOrAwait :
    (settling.role = .settling ∧ settling.quiet.isSome = true ∧ settling.label.root ≠ settling.params.own)
    ∧ ({ alone .settling with quiet := some 0 }.quiet.isSome = true ∧ (alone .settling).role = .settling
      ∧ (alone .settling).label.root = (alone .settling).params.own) := by decide +kernel

theorem witness_GatherEndBearsTheZone :
    headGather.role = .headGather ∧ headGather.zone = some gathering ∧ gathering.gather.isSome = true := by decide +kernel

/-- A zone at round 255 with somebody in it, and an OCCUPIED one that has been left long enough. -/
def busyRound : Zone := { running with round := 255, roll := [entryOf 300 228 true .carried true, entryOf 341 228 false .fresh false] }

def leftZone : Zone := { running with occupancy := .occupied, residency := .met }

theorem witness_RoundCloseComputesTheZone :
    (headRun.role = .headRun ∧ headRun.zone = some running ∧ running.roundTimer.isSome = true)
    ∧ (withZone (fun _ => busyRound) headRun).zone = some busyRound ∧ busyRound.roundTimer.isSome = true
    ∧ (after .roundClose (withZone (fun _ => busyRound) headRun)).zone.map (fun z => (z.round.toNat, z.occupancy, z.residency))
      = some (1, .occupied, .counting 0)
    ∧ (withZone (fun _ => leftZone) headRun).zone = some leftZone
    ∧ (after .roundClose (withZone (fun _ => leftZone) headRun)).zone.map (fun z => (z.occupancy, z.residency))
      = some (.vacant, .stopped) := by decide +kernel

theorem witness_OrderStoredAndApplied :
    (zoneOrder 341 .call gathering).kind = .call ∧ ordered.kind = .control ∧ ordered.occupancy = .vacant
    ∧ (withCell (fun c => { c with occupied := true }) member).cell.occupied = true := by decide +kernel

/-- A roll of `n` entries below number 300. -/
def rollOf (n : Nat) : List Entry := (List.range n).map fun i => entryOf (BitVec.ofNat 12 i) 228 false .fresh false

theorem witness_TallyEntersTheRoll :
    (headRun.role.operating = true ∧ headRun.line.view ≠ .resync ∧ (300 : Station) ≠ headRun.params.own
      ∧ headRun.zone = some running ∧ present.addressee = headRun.params.own ∧ present.epoch = running.epoch
      ∧ headRun.role = .headRun ∧ present.round = running.round ∧ rollHas 300 running.roll = true
      ∧ present.occupied = true ∧ running.occupancy = .vacant)
    ∧ ({ present with addressee := 340 }.addressee ≠ headRun.params.own ∧ { present with round := 2 }.round ≠ running.round
      ∧ member.role.isHead = false ∧ { present with occupied := false }.occupied = false
      ∧ headOccupied.zone.map Zone.occupancy = some .occupied)
    ∧ (headGather.role = .headGather ∧ headGather.zone = some gathering ∧ { present with round := 0 }.round = 0
      ∧ present.round ≠ 0 ∧ gathering.roll.length < 249)
    ∧ (rollHas 300 (rollOf 249) = false ∧ 249 ≤ (rollOf 249).length ∧ (rollOf 249).length < 250
      ∧ rollHas 300 (rollOf 250) = false ∧ 250 ≤ (rollOf 250).length)
    ∧ member.zone = none ∧ running.roll.Pairwise (fun a b => a.cell.toNat < b.cell.toNat)
    ∧ Params.unloaded.minResidency = 0 ∧ 0 < (paramsOf 341).minResidency := by decide +kernel

theorem witness_NudgePresetAndKeyAtAHead :
    (headRun.role.operating = true ∧ headRun.line.view ≠ .resync ∧ (4090 : Station) ≠ headRun.params.own
      ∧ (4090 : Station) ∈ headRun.params.gateways ∧ (4091 : Station) ∉ headRun.params.gateways)
    ∧ (headRun.zone = some running ∧ headRun.role.isHead = true ∧ headRun.role = .headRun)
    ∧ (headGather.zone = some gathering ∧ headGather.role.isHead = true ∧ headGather.role = .headGather)
    ∧ ((⟨117, 341, ⟨5, 0⟩⟩ : Nudge).addressee = headRun.params.own ∧ (⟨117, 341, ⟨5, 0⟩⟩ : Nudge).epoch = running.epoch
      ∧ (⟨116, 341, ⟨5, 0⟩⟩ : Nudge).epoch ≠ running.epoch ∧ (⟨117, 341, 230, 0⟩ : Preset).epoch = running.epoch
      ∧ (⟨117, 340, 230, 0⟩ : Preset).addressee ≠ headRun.params.own ∧ (230 : Int) ≠ running.setpoint)
    ∧ member.zone = none ∧ member.role.isHead = false := by decide +kernel

theorem witness_ScheduleSetsTheFloorMode :
    (member.role.operating = true ∧ member.line.view ≠ .resync ∧ (4090 : Station) ≠ member.params.own
      ∧ (4090 : Station) ∈ member.params.gateways ∧ (4091 : Station) ∉ member.params.gateways ∧ 2 < (3#8).toNat
      ∧ FloorMode.day = member.floorMode ∧ FloorMode.evening ≠ member.floorMode)
    ∧ (hearSource (neighbourDir member 4090) (acknowledgeFrame member)).role ≠ .orphan
    ∧ (hearSource (neighbourDir member 4090) (acknowledgeFrame member)).role ≠ .mute
    ∧ (orphan.role.operating = true ∧ orphan.line.view ≠ .resync ∧ (4090 : Station) ∈ orphan.params.gateways
      ∧ (hearSource (neighbourDir orphan 4090) (acknowledgeFrame orphan)).role = .orphan
      ∧ FloorMode.night ≠ orphan.floorMode) := by decide +kernel

theorem witness_MatchingOrderIsAccepted :
    (member.role.operating = true ∧ member.line.view ≠ .resync ∧ (340 : Station) ≠ member.params.own)
    ∧ (await.role = .await ∧ ordered.epoch = await.label.epoch ∧ ordered.source = await.label.root)
    ∧ (member.role = .member ∧ ordered.epoch = member.label.epoch ∧ ordered.source = member.label.root
      ∧ member.cell.lastAnswered = some ⟨ordered.epoch, ordered.source, ordered.round⟩)
    ∧ (await.cell.nudge = ⟨0, 0⟩ ∧ (withCell (fun c => { c with nudge := ⟨5, 0⟩ }) await).cell.nudge ≠ ⟨0, 0⟩
      ∧ (withCell (fun c => { c with nudge := ⟨5, 0⟩ }) await).cell.outstanding = none)
    ∧ { ordered with epoch := 116 }.epoch ≠ member.label.epoch ∧ ordered.source ≠ headRun.label.root
    ∧ headRun.role = .headRun ∧ muted.role = .mute := by decide +kernel

theorem witness_EntryToLocalControl :
    (await.role = .await ∧ await.cell.orderTimer.isSome = true) ∧ member.role = .member
    ∧ member.cell.orderTimer.isSome = true := by decide +kernel

theorem witness_LocalRoundComputesTheCell :
    (orphan.role = .orphan ∧ orphan.cell.localRound.isSome = true) ∧ muted.role = .mute
    ∧ muted.cell.localRound.isSome = true := by decide +kernel

theorem witness_OccupancyOnsetByRole :
    (settling.role.operating = true ∧ settling.role = .settling)
    ∧ (orphan.role.operating = true ∧ orphan.cell.occupied = false ∧ orphan.role = .orphan)
    ∧ (member.role.operating = true ∧ member.cell.occupied = false ∧ member.cell.lastOrder = some ordered
      ∧ member.role = .member)
    ∧ (headGather.role.operating = true ∧ headGather.cell.occupied = false ∧ headGather.role = .headGather
      ∧ headGather.cell.lastOrder = some (zoneOrder 341 .call gathering))
    ∧ (headRun.role.operating = true ∧ headRun.cell.occupied = false ∧ headRun.role = .headRun
      ∧ headRun.cell.lastOrder = some (zoneOrder 341 .control running) ∧ headRun.zone = some running
      ∧ running.occupancy = .vacant)
    ∧ headOccupied.zone.map Zone.occupancy = some .occupied := by decide +kernel

/-- A hold timer held, and one that has run out. -/
def holding : State := after .occupancyAssertion member

def leaving (s : State) : State := withCell (fun c => { c with occupied := true, hold := .running 0 }) s

theorem witness_OccupancyEndsAndResidency :
    (holding.role.operating = true ∧ holding.cell.hold = .held ∧ member.cell.hold ≠ .held)
    ∧ ((leaving member).cell.hold = .running 0 ∧ (leaving member).role ≠ .orphan ∧ (leaving member).role ≠ .mute)
    ∧ ((leaving orphan).role.operating = true ∧ (leaving orphan).cell.hold = .running 0 ∧ (leaving orphan).role = .orphan)
    ∧ (headOccupied.role.operating = true ∧ headOccupied.zone.map Zone.residency = some (.counting 7)) := by decide +kernel

theorem witness_FadeAndSensorRead :
    (member.role.operating = true ∧ member.light.output = member.light.target)
    ∧ (State.reset.role = .uncommissioned ∧ State.reset.light.output < State.reset.light.target)
    ∧ { member with light := ⟨0, 1, 0⟩ }.light.target < { member with light := ⟨0, 1, 0⟩ }.light.output
    ∧ Within (-100) 600 (-100) ∧ Within (-100) 600 600 ∧ (-101 < (-100 : Int)) ∧ (600 : Int) < 601 := by decide +kernel

theorem witness_KeyPressByRole :
    settling.role = .settling ∧ (member.role = .member ∧ member.cell.outstanding = none)
    ∧ ((⟨clamp (-50) 50 (member.cell.nudge.temp + 5), clamp (-500) 500 (member.cell.nudge.light + 0)⟩ : Deltas) ≠ ⟨0, 0⟩)
    ∧ ((after (.keyPress .warmer) member).role = .member ∧ (after (.keyPress .warmer) member).cell.outstanding.isSome = true)
    ∧ orphan.role = .orphan ∧ clampLightPref (orphan.cell.lightPref + 0) = orphan.cell.lightPref
    ∧ clampLightPref (orphan.cell.lightPref + 50) ≠ orphan.cell.lightPref := by decide +kernel

theorem witness_DuplicateNumberMutes :
    (member.role.operating = true ∧ member.line.view ≠ .resync ∧ member.line.attempt = none)
    ∧ ((attempting 0 member).role.operating = true ∧ (attempting 0 member).line.attempt.isSome = true)
    ∧ muted.role = .mute ∧ member.role ≠ .mute := by decide +kernel

theorem witness_AttemptStartsTheSelectedFrame :
    (threeFrames.role.operating = true ∧ threeFrames.line.view = .idle ∧ threeFrames.line.backoff = none
      ∧ threeFrames.line.mute = false ∧ selectSlot threeFrames.slots = some (.order, 2, 0))
    ∧ (muted.role.operating = true ∧ muted.line.mute = true) ∧ selectSlot member.slots = none
    ∧ (inView .resync member).line.view ≠ .idle := by decide +kernel

/-- A NUDGE handed by a press, whose flight is to end. -/
def pressed : State := after (.keyPress .warmer) member

theorem witness_AttemptEnds :
    ((attempting 0 member).role.operating = true ∧ (attempting 0 member).line.attempt.map Attempt.slot = some .mark
      ∧ readSlot slotRetries .mark (attempting 2 member).slots < 3 ∧ 3 ≤ readSlot slotRetries .mark (attempting 3 member).slots)
    ∧ member.cell.outstanding = none ∧ (pressed.cell.outstanding = some ⟨5, 0⟩ ∧ pressed.role = .member)
    ∧ ((⟨clamp (-50) 50 (pressed.cell.nudge.temp - 5), clamp (-500) 500 (pressed.cell.nudge.light - 0)⟩ : Deltas) = ⟨0, 0⟩)
    ∧ ((after (.keyPress .warmer) pressed).cell.outstanding = some ⟨5, 0⟩
      ∧ (⟨clamp (-50) 50 ((after (.keyPress .warmer) pressed).cell.nudge.temp - 5),
          clamp (-500) 500 ((after (.keyPress .warmer) pressed).cell.nudge.light - 0)⟩ : Deltas) ≠ ⟨0, 0⟩)
    ∧ ((spentNudge ⟨10, 0⟩).cell.outstanding = some ⟨5, 0⟩ ∧ (spentNudge ⟨10, 0⟩).cell.spent = true
      ∧ (spentNudge ⟨10, 0⟩).role = .member)
    ∧ (settling.role = .settling ∧ headRun.role.isHead = true ∧ orphan.role.isLocal = true)
    ∧ ((freshFrame ordered).losses < 7 ∧ 7 ≤ { freshFrame ordered with losses := 7 }.losses ∧ (freshFrame ordered).inAttempt = false
      ∧ { freshFrame ordered with inAttempt := true }.inAttempt = true) := by decide +kernel

theorem witness_LineEvents :
    (member.role.operating = true ∧ member.line.view = .idle)
    ∧ ((inView .busy member).line.view = .busy ∧ (inView .busy member).line.attempt = none)
    ∧ (inView .resync member).line.view = .resync
    ∧ ({ member with line := { member.line with beacon := some 0 } }.line.beacon.isSome = true ∧ member.slots.mark = none)
    ∧ threeFrames.slots.mark ≠ none := by decide +kernel

theorem witness_ResetForgetsAllButTheRecord :
    (inputs true).jumper = true ∧ (inputs false).jumper = false ∧ State.reset.store.good = false := by decide +kernel

theorem witness_GoodRecordStartsTheCell : (inputs false).jumper = false ∧ stored.store.good = true := by decide +kernel

theorem witness_LoadingClampsTheRecord :
    (neighbourNumber (loadParams record341).own .north ≠ none ∧ recordByte record341 2 = 3 ∧ recordByte record341 3 = 2
      ∧ recordByte record341 4 = 0 ∧ recordByte record341 5 = 1 ∧ neighbourNumber (loadParams record341).own .west ≠ none
      ∧ recordByte (recordWith 5 21 [4, 5, 255, 7] 1 30 5 8 200 900 400) 2 = 4
      ∧ recordByte (recordWith 5 21 [4, 5, 255, 7] 1 30 5 8 200 900 400) 3 = 5)
    ∧ (neighbourNumber 341 .north = some 277 ∧ neighbourNumber 341 .east = some 342 ∧ neighbourNumber 341 .south = some 405
      ∧ neighbourNumber 341 .west = some 340 ∧ neighbourNumber 63 .east = none ∧ neighbourNumber 64 .north = some 0)
    ∧ min 63 (recordByte (List.replicate 42 0#8) 0) = 0 ∧ min 63 (recordByte (List.replicate 42 0#8) 1) = 0
    ∧ min 63 (recordByte (List.replicate 42 0xFF#8) 0) = 63 ∧ min 63 (recordByte (List.replicate 42 0xFF#8) 1) = 63 := by
  decide +kernel

theorem witness_LockedPortChangesNothing :
    (member.role ≠ .inReset ∧ member.port = .ready ∧ member.store.lock = true)
    ∧ writing.port ≠ .ready ∧ (after .resetStart member).role = .inReset := by decide +kernel

theorem witness_ServicePortAnswers :
    (serving.role = .service ∧ serving.port = .ready ∧ serving.store.lock = false)
    ∧ ([0#8] : List Byte) ≠ [] ∧ record341.length = 42 ∧ recordCheck record341 = true
    ∧ (List.replicate 42 0#8).length = 42 ∧ recordCheck (List.replicate 42 0#8) = false
    ∧ (List.replicate 41 0#8).length ≠ 42 ∧ (List.replicate 5 0#8).length ≠ 6 := by decide +kernel

end Sys2Proof.Tests
end

section
/-! PROOF. RAW_INPUT_CHANGE (1.2, R2, R17): what it does to an owned track, and that no other direction's input is read. -/

namespace Sys2Proof.Machine

/-- In an operating role state a raw change is the Edge Monitor's reading of it (R17). -/
theorem exec_rawInputChange_of_operating {s : State} (hop : s.role.operating = true) (d : Dir) (level : Level) :
    exec (.rawInputChange d level) s = .next (rawChanged d level s) :=
  whenOperating_of hop (rawChanged d level)

/-- A new level of an owned track is kept, and the settle timer follows its comparison with the sensed state (R2). -/
theorem rawChanged_of_trackOwned {s : State} {d : Dir} {level : Level} (hkind : (edgeAt s d).kind = .trackOwned)
    (hnew : level ≠ (edgeAt s d).raw) :
    rawChanged d level s = setEdge d { edgeAt s d with
      raw := level
      settle := if trackOf level = (edgeAt s d).sensed then none else some (seconds s.params.settle) } s :=
  if_pos ⟨hkind, hnew⟩

/-- The input of a direction that is no owned track is not read (1.2). -/
theorem rawChanged_of_not_trackOwned {s : State} {d : Dir} (level : Level) (hkind : (edgeAt s d).kind ≠ .trackOwned) :
    rawChanged d level s = s :=
  if_neg fun ⟨howned, _⟩ => hkind howned

/-- Two levels that differ read as the two track states, so one of them is any given state. -/
theorem trackOf_eq_of_ne {level old : Level} {t : Track} (hnew : level ≠ old) (haway : trackOf old ≠ t) :
    trackOf level = t := by
  cases level with
  | active =>
    cases old with
    | active => exact absurd rfl hnew
    | inactive => cases t with
      | present => rfl
      | absent => exact absurd rfl haway
  | inactive =>
    cases old with
    | inactive => exact absurd rfl hnew
    | active => cases t with
      | present => exact absurd rfl haway
      | absent => rfl

/-- Settles O27: the equation of `rawChanged` for an owned track, by the branch of the settle timer, and its frame for any
other direction. -/
theorem rawChangeStartsOrStopsTheSettle : Obligations.RawChangeStartsOrStopsTheSettle := by
  intro d level s hop
  rw [exec_rawInputChange_of_operating hop]
  refine ⟨fun hkind hnew => ?owned, fun hkind => ?notRead⟩
  case owned =>
    rw [rawChanged_of_trackOwned hkind hnew]
    refine ⟨fun haway => ?starts, fun hreturn => ?stops, trackOf_eq_of_ne hnew⟩
    case starts => rw [if_neg haway]
    case stops => rw [if_pos hreturn]
  case notRead => rw [rawChanged_of_not_trackOwned level hkind]

end Sys2Proof.Machine
end

section
/-! PROOF. The churn event (2.1, R21, R22): the absorbed event, and the counted event with its count written as a minimum. -/

namespace Sys2Proof.Machine

/-- While the burst timer runs a churn event changes nothing, not the window either (R22). -/
theorem churnEvent_of_burst_isSome {s : State} (hburst : s.churn.burst.isSome = true) : churnEvent s = s := by
  obtain ⟨-, habsorbed⟩ | ⟨hstopped, -⟩ := churnEvent_cases s
  · exact habsorbed
  · simp [hstopped] at hburst

/-- With the burst timer stopped a churn event is counted: one more, but no more than the churn depth, and HOLD is judged by
the new count (R21). -/
theorem churnEvent_of_burst_eq_none {s : State} (hburst : s.churn.burst = none)
    (hdepth : s.churn.count ≤ s.params.churnDepth) :
    churnEvent s = { s with churn := {
      count := min (s.churn.count + 1) s.params.churnDepth
      burst := some (seconds s.params.burst)
      decay := some (minutes s.params.churnDecay)
      hold := s.churn.hold || decide (s.params.churnThreshold ≤ min (s.churn.count + 1) s.params.churnDepth) } } := by
  obtain ⟨hruns, -⟩ | ⟨-, c, hc, hcounted⟩ := churnEvent_cases s
  · simp [hburst] at hruns
  · have hmin : c = min (s.churn.count + 1) s.params.churnDepth := by omega
    rw [hcounted, hmin]

/-- Settles O29: the two cases of `churnEvent`, by the burst timer. -/
theorem churnEventCountedOrAbsorbed : Obligations.ChurnEventCountedOrAbsorbed :=
  fun _ => ⟨churnEvent_of_burst_isSome, churnEvent_of_burst_eq_none⟩

end Sys2Proof.Machine
end

section
/-! PROOF. The epoch order (R35): the difference of two epochs modulo 4096, and the two differences of a pair of unequal epochs,
which add up to 4096. -/

namespace Sys2Proof.Machine

/-- The difference of two epochs, taken in 0..4095 (R35). -/
def epochGap (a b : Epoch) : Nat := (a.toNat + 4096 - b.toNat) % 4096

/-- The word subtraction of two epochs is their difference modulo 4096. -/
theorem toNat_sub_eq_epochGap (a b : Epoch) : (a - b).toNat = epochGap a b := by
  have hb : b.toNat < 4096 := b.isLt
  have hreorder : 2 ^ 12 - b.toNat + a.toNat = a.toNat + 4096 - b.toNat := by omega
  rw [BitVec.toNat_sub, hreorder]
  rfl

/-- The epoch order on the difference: 1 to 2047 is newer, and at 2048 the greater number is (R35). -/
theorem newer_iff (a b : Epoch) :
    newer a b = true ↔ 1 ≤ epochGap a b ∧ epochGap a b ≤ 2047 ∨ epochGap a b = 2048 ∧ b.toNat < a.toNat := by
  simp only [newer, toNat_sub_eq_epochGap, decide_eq_true_eq]

/-- An epoch lies at difference 0 from itself. -/
theorem epochGap_self (a : Epoch) : epochGap a a = 0 := by
  simp [epochGap]

/-- The differences of two unequal epochs, taken both ways, are not 0 and add up to 4096. -/
theorem epochGap_add_epochGap {a b : Epoch} (h : a ≠ b) :
    1 ≤ epochGap a b ∧ 1 ≤ epochGap b a ∧ epochGap a b + epochGap b a = 4096 := by
  have hne : a.toNat ≠ b.toNat := fun heq => h (BitVec.eq_of_toNat_eq heq)
  have ha : a.toNat < 4096 := a.isLt
  have hb : b.toNat < 4096 := b.isLt
  unfold epochGap
  omega

/-- No epoch is newer than itself (R35). -/
theorem newer_self (a : Epoch) : newer a a = false := by
  rw [← Bool.not_eq_true, newer_iff, epochGap_self]
  omega

/-- Of two unequal epochs exactly one is newer: of their two differences one is below 2048 and the other above, or both are 2048
and the numbers decide (R35). -/
theorem newer_iff_not_newer {a b : Epoch} (h : a ≠ b) : newer a b = true ↔ newer b a = false := by
  have hne : a.toNat ≠ b.toNat := fun heq => h (BitVec.eq_of_toNat_eq heq)
  obtain ⟨hab, hba, hsum⟩ := epochGap_add_epochGap h
  rw [← Bool.not_eq_true, newer_iff, newer_iff]
  omega

/-- Settles O24: the order by the difference modulo 4096, and the three epochs 1500 apart that are newer in a circle. -/
theorem epochOrderIsTheTable : Obligations.EpochOrderIsTheTable := by
  have hcircle : newer 1500 0 = true ∧ newer 3000 1500 = true ∧ newer 0 3000 = true := by decide
  exact ⟨hcircle, fun a b => ⟨newer_iff a b, newer_self a, newer_iff_not_newer⟩⟩

end Sys2Proof.Machine
end

section
/-! PROOF. The recompute (R37, R38, R43): the best label is a candidate that no candidate is better than, and what a recompute
does follows from where the current label stands to it. -/

namespace Sys2Proof.Machine

/-! ### The label order on labels of one epoch -/

/-- The label order is asymmetric. -/
theorem not_better_of_better {a b : Label} (h : better a b = true) : better b a = false := by
  rw [← Bool.not_eq_true]
  intro hback
  simpa [better_irrefl] using better_trans h hback

/-- Of two labels of one epoch neither of which is better, both are the same label. -/
theorem eq_of_not_better {a b : Label} (hepoch : a.epoch = b.epoch) (hab : better a b = false)
    (hba : better b a = false) : a = b := by
  rw [← Bool.not_eq_true, better_iff] at hab hba
  have hroot : a.root = b.root := BitVec.eq_of_toNat_eq (by omega)
  have hhops : a.hops = b.hops := by
    have hle : ¬ a.hops < b.hops := fun hlt => hab (.inr ⟨hroot, hlt⟩)
    have hge : ¬ b.hops < a.hops := fun hlt => hba (.inr ⟨hroot.symm, hlt⟩)
    omega
  cases a; cases b
  simp_all

/-! ### The best label -/

/-- A candidate of an epoch: the self candidate, or that of some direction (R37). -/
def IsCandidate (s : State) (e : Epoch) (l : Label) : Prop :=
  l = selfLabel s e ∨ ∃ d, candidate s e d = some l

/-- A candidate carries the epoch it is formed in. -/
theorem IsCandidate.epoch_eq {s : State} {e : Epoch} {l : Label} (h : IsCandidate s e l) : l.epoch = e := by
  obtain hself | ⟨d, hd⟩ := h
  · rw [hself]; rfl
  · exact (candidate_spec hd).1

/-- Taking in one direction does not make the best so far worse. -/
theorem not_better_bestNext (s : State) (e : Epoch) (best : Label) (d : Dir) :
    better best (bestNext s e best d) = false := by
  obtain ⟨hkept, -⟩ | ⟨c, -, hbetter, htaken⟩ := bestNext_spec s e best d
  · rw [hkept]; exact better_irrefl best
  · rw [htaken]; exact not_better_of_better hbetter

/-- The candidate of a direction taken in is not better than the outcome. -/
theorem candidate_not_better_bestNext {s : State} {e : Epoch} {d : Dir} {l : Label} (h : candidate s e d = some l)
    (best : Label) : better l (bestNext s e best d) = false := by
  obtain ⟨hkept, hnone⟩ | ⟨c, hc, -, htaken⟩ := bestNext_spec s e best d
  · rw [hkept]; exact hnone l h
  · obtain rfl : l = c := Option.some.inj (h.symm.trans hc)
    rw [htaken]; exact better_irrefl l

/-- Taking in directions keeps a candidate a candidate. -/
theorem isCandidate_foldl_bestNext {s : State} {e : Epoch} (ds : List Dir) {best : Label} (h : IsCandidate s e best) :
    IsCandidate s e (ds.foldl (bestNext s e) best) := by
  induction ds generalizing best with
  | nil => exact h
  | cons d ds ih =>
    obtain ⟨hkept, -⟩ | ⟨c, hc, -, htaken⟩ := bestNext_spec s e best d
    · exact ih (by rw [hkept]; exact h)
    · exact ih (by rw [htaken]; exact .inr ⟨d, hc⟩)

/-- Taking in directions does not make the best so far worse. -/
theorem not_better_foldl_bestNext (s : State) (e : Epoch) (ds : List Dir) (best : Label) :
    better best (ds.foldl (bestNext s e) best) = false := by
  induction ds generalizing best with
  | nil => exact better_irrefl best
  | cons d ds ih => exact not_better_trans (not_better_bestNext s e best d) (ih _)

/-- No candidate of the directions taken in is better than the outcome. -/
theorem candidate_not_better_foldl_bestNext {s : State} {e : Epoch} {d : Dir} {l : Label}
    (h : candidate s e d = some l) {ds : List Dir} (hd : d ∈ ds) (best : Label) :
    better l (ds.foldl (bestNext s e) best) = false := by
  induction ds generalizing best with
  | nil => cases hd
  | cons d' ds ih =>
    cases hd with
    | head => exact not_better_trans (candidate_not_better_bestNext h best) (not_better_foldl_bestNext s e ds _)
    | tail _ hd => exact ih hd _

/-- The best label of an epoch is one of its candidates (R38). -/
theorem isCandidate_bestLabel (s : State) (e : Epoch) : IsCandidate s e (bestLabel s e) :=
  isCandidate_foldl_bestNext allDirs (.inl rfl)

/-- No candidate is better than the best label (R38). -/
theorem IsCandidate.not_better_bestLabel {s : State} {e : Epoch} {l : Label} (h : IsCandidate s e l) :
    better l (bestLabel s e) = false := by
  obtain hself | ⟨d, hd⟩ := h
  · rw [hself]; exact not_better_foldl_bestNext s e allDirs _
  · exact candidate_not_better_foldl_bestNext hd (mem_allDirs d) _

/-- The best label carries the epoch asked for. -/
theorem bestLabel_epoch (s : State) (e : Epoch) : (bestLabel s e).epoch = e :=
  (isCandidate_bestLabel s e).epoch_eq

/-! ### The three cases of a recompute -/

/-- A best candidate better than the label is adopted (R43). -/
theorem recompute_of_better {s : State} (h : better (bestLabel s s.label.epoch) s.label = true) :
    recompute s = labelChange (bestLabel s s.label.epoch) s :=
  if_pos h

/-- A label that is a candidate and is not bettered is the best candidate. -/
theorem bestLabel_eq_label {s : State} (hstands : IsCandidate s s.label.epoch s.label)
    (h : better (bestLabel s s.label.epoch) s.label = false) : bestLabel s s.label.epoch = s.label :=
  eq_of_not_better (bestLabel_epoch s s.label.epoch) h hstands.not_better_bestLabel

/-- A label that is a candidate and is not bettered stands (R43). -/
theorem recompute_of_stands {s : State} (hstands : IsCandidate s s.label.epoch s.label)
    (h : better (bestLabel s s.label.epoch) s.label = false) : recompute s = s := by
  simp [recompute, h, bestLabel_eq_label hstands, better_irrefl]

/-- A label that is no candidate is not the best candidate. -/
theorem bestLabel_ne_label {s : State} (hlost : ¬ IsCandidate s s.label.epoch s.label) :
    bestLabel s s.label.epoch ≠ s.label := by
  intro heq
  have hbest := isCandidate_bestLabel s s.label.epoch
  rw [heq] at hbest
  exact hlost hbest

/-- A label that is no candidate and is not bettered is better than every candidate. -/
theorem label_better_of_lost {s : State} (hlost : ¬ IsCandidate s s.label.epoch s.label)
    (h : better (bestLabel s s.label.epoch) s.label = false) : better s.label (bestLabel s s.label.epoch) = true := by
  rw [← Bool.not_eq_false]
  exact fun hback => bestLabel_ne_label hlost (eq_of_not_better (bestLabel_epoch s s.label.epoch) h hback)

/-- The worsening rule: a label that is no candidate and is not bettered opens a new epoch (R43). -/
theorem recompute_of_lost {s : State} (hlost : ¬ IsCandidate s s.label.epoch s.label)
    (h : better (bestLabel s s.label.epoch) s.label = false) : recompute s = openEpoch s := by
  simp [recompute, h, bestLabel_ne_label hlost]

/-- At a label that is a candidate the worsening rule cannot apply (R43). -/
theorem recompute_of_isCandidate {s : State} (hstands : IsCandidate s s.label.epoch s.label) :
    recompute s = s ∨ recompute s = labelChange (bestLabel s s.label.epoch) s := by
  cases hbetter : better (bestLabel s s.label.epoch) s.label with
  | false => exact .inl (recompute_of_stands hstands hbetter)
  | true => exact .inr (recompute_of_better hbetter)

/-- Settles O37: the cases of `recompute` by whether the best candidate is better and whether the label is a candidate. -/
theorem recomputeByTheTable : Obligations.RecomputeByTheTable :=
  fun s => ⟨bestLabel_epoch s s.label.epoch, recompute_of_better, recompute_of_stands,
    fun hlost h => ⟨label_better_of_lost hlost h, recompute_of_lost hlost h⟩,
    fun hself => recompute_of_isCandidate (.inl hself)⟩

end Sys2Proof.Machine
end

section
/-! PROOF. How a property is shown to be kept by every step: block by block, what each of the block's operations does to it, and
then once for all commands and for the clock. The invariants and the frames of the following parts are uses of `exec_keeps` and
`step_keeps`. -/

namespace Sys2Proof.Machine

/-! ### One operation -/

/-- `P` is kept by an operation of the blocks in every operating role. -/
def KeptBy (P : State → Prop) (f : State → State) : Prop := ∀ s, s.role.operating = true → P s → P (f s)

/-- A step that the cell takes in an operating role keeps what its operation keeps. -/
theorem KeptBy.whenOperating {P : State → Prop} {f : State → State} (hf : KeptBy P f) {s t : State} (hs : P s)
    (h : whenOperating f s = .next t) : P t := by
  obtain ⟨hop, heq⟩ | ⟨-, heq⟩ := whenOperating_cases f s
  · cases heq.symm.trans h
    exact hf s hop hs
  · cases heq.symm.trans h
    exact hs

/-! ### The operations, block by block -/

/-- `P` is kept by the operations of the Edge Monitor and the Churn Monitor (Chapters 1 and 2), with what they hand to the Label
Unit. -/
structure EdgesKeep (P : State → Prop) : Prop where
  rawChanged : ∀ d level, KeptBy P (rawChanged d level)
  settleEnded : ∀ d, KeptBy P (settleEnded d)
  burstStopped : KeptBy P fun s => { s with churn := { s.churn with burst := none } }
  decayEnded : KeptBy P decayEnded
  silenceEnded : ∀ d, KeptBy P (silenceEnded d)
  heard : ∀ d, KeptBy P (heard d)
  takeMark : ∀ d a, KeptBy P (takeMark d a)

/-- `P` is kept by the operations of the quiet timer, the Zone Head, the Gateway Filter and Cell Control (Chapters 3 to 7 and 9). -/
structure BlocksKeep (P : State → Prop) : Prop where
  quietEnded : KeptBy P quietEnded
  gatherEnded : KeptBy P gatherEnded
  roundClosed : KeptBy P roundClosed
  headTally : ∀ source t, KeptBy P (headTally source t)
  headNudge : ∀ n, KeptBy P (headNudge n)
  filterPreset : ∀ source p, KeptBy P (filterPreset source p)
  filterSchedule : ∀ source code, KeptBy P (filterSchedule source code)
  residencyReached : KeptBy P residencyReached
  takeOrder : ∀ o, KeptBy P (takeOrder o)
  orderTimedOut : KeptBy P orderTimedOut
  localRoundEnded : KeptBy P localRoundEnded
  contactAsserted : KeptBy P contactAsserted
  contactReleased : KeptBy P contactReleased
  holdEnded : KeptBy P holdEnded
  readSensor : ∀ r, KeptBy P (readSensor r)
  keyPressed : ∀ key, KeptBy P (keyPressed key)

/-- `P` is kept by the operations of the Floor Line Interface (Chapter 8), with the entry to MUTE at a frame of the own number. -/
structure LineKeeps (P : State → Prop) : Prop where
  acknowledgeFrame : KeptBy P acknowledgeFrame
  ownFrame : ∀ s, s.role.operating = true → s.line.attempt = none → P s → P (enterMute s)
  duplicateDetected : KeptBy P duplicateDetected
  attemptStarted : KeptBy P attemptStarted
  arbitrationLost : KeptBy P arbitrationLost
  attemptAcknowledged : KeptBy P attemptAcknowledged
  attemptUnacknowledged : KeptBy P attemptUnacknowledged
  backoffEnded : KeptBy P fun s => { s with line := { s.line with backoff := none } }
  gapEnded : KeptBy P gapEnded
  stepLost : KeptBy P stepLost
  silenceRead : KeptBy P silenceRead
  promoted : ∀ id, KeptBy P fun s => { s with slots := mapSlot promoteSlot id s.slots }
  beaconEnded : KeptBy P beaconEnded
  startBitRead : KeptBy P startBitRead

/-- `P` is kept by the resets, the start sequence, the service port and the fade, which run in other roles too (Chapter 10,
R116). -/
structure StoreKeeps (P : State → Prop) : Prop where
  resetStarted : ∀ s, P s → P (outputsOff { wiped s with role := .inReset })
  enterService : ∀ s, P s → P (enterService s)
  enterUncommissioned : ∀ s, P s → P (enterUncommissioned s)
  startOperating : ∀ inputs s, s.store.good = true → P s → P (startOperating inputs s)
  answer : ∀ code data s, P s → P (answer code data s)
  beginWrite : ∀ data s, data.length = 42 → s.store.lock = false → P s → P (beginWrite data s)
  drive : ∀ data s, s.store.lock = false → P s → P (drive data s)
  writeCompleted : ∀ s, P s → P (writeCompleted s)
  replyEnded : ∀ s, P s → P (replyEnded s)
  fadeStepped : ∀ s, P s → P (fadeStepped s)

/-! ### The operations one command runs -/

/-- `P` is kept by those operations of the Edge Monitor and the Churn Monitor that the command `c` runs. -/
structure EdgesKeepFor (c : Instr) (P : State → Prop) : Prop where
  rawChanged : ∀ d level, c = .rawInputChange d level → KeptBy P (rawChanged d level)
  settleEnded : ∀ d, c = .settleExpiry d → KeptBy P (settleEnded d)
  burstStopped : c = .burstTimerExpiry → KeptBy P fun s => { s with churn := { s.churn with burst := none } }
  decayEnded : c = .decayExpiry → KeptBy P decayEnded
  silenceEnded : ∀ d, c = .silenceTimerExpiry d → KeptBy P (silenceEnded d)
  heard : ∀ d, KeptBy P (heard d)
  takeMark : ∀ d a, KeptBy P (takeMark d a)

/-- `P` is kept by those of the resets, the start sequence, the service port and the fade that the command `c` runs. -/
structure StoreKeepsFor (c : Instr) (P : State → Prop) : Prop where
  resetStarted : c = .resetStart → ∀ s, P s → P (outputsOff { wiped s with role := .inReset })
  enterService : ∀ inputs, c = .powerOnReset inputs → ∀ s, P s → P (enterService s)
  enterUncommissioned : ∀ inputs, c = .powerOnReset inputs → ∀ s, P s → P (enterUncommissioned s)
  startOperating : ∀ inputs, c = .powerOnReset inputs → ∀ s, s.store.good = true → P s → P (startOperating inputs s)
  answer : ∀ code data s, P s → P (answer code data s)
  beginWrite : ∀ data, c = .writeRecord data → recordCheck data = true → ∀ s, data.length = 42 → s.store.lock = false → P s →
    P (beginWrite data s)
  drive : ∀ data, c = .driveOutputs data → ∀ s, s.store.lock = false → P s → P (drive data s)
  writeCompleted : c = .writeComplete → ∀ s, P s → P (writeCompleted s)
  replyEnded : ∀ s, P s → P (replyEnded s)
  fadeStepped : ∀ s, P s → P (fadeStepped s)

theorem EdgesKeep.toFor {P : State → Prop} (h : EdgesKeep P) (c : Instr) : EdgesKeepFor c P where
  rawChanged d level _ := h.rawChanged d level
  settleEnded d _ := h.settleEnded d
  burstStopped _ := h.burstStopped
  decayEnded _ := h.decayEnded
  silenceEnded d _ := h.silenceEnded d
  heard := h.heard
  takeMark := h.takeMark

theorem StoreKeeps.toFor {P : State → Prop} (h : StoreKeeps P) (c : Instr) : StoreKeepsFor c P where
  resetStarted _ := h.resetStarted
  enterService _ _ := h.enterService
  enterUncommissioned _ _ := h.enterUncommissioned
  startOperating inputs _ := h.startOperating inputs
  answer := h.answer
  beginWrite data _ _ := h.beginWrite data
  drive data _ := h.drive data
  writeCompleted _ := h.writeCompleted
  replyEnded := h.replyEnded
  fadeStepped := h.fadeStepped

/-! ### Received frames and messages -/

/-- A label change leaves an operating cell in an operating role. -/
theorem operating_reevaluate {s : State} (d : Dir) (h : s.role.operating = true) : (reevaluate d s).role.operating = true := by
  obtain ⟨-, heq⟩ | ⟨-, heq⟩ := reevaluate_cases d s
  · rw [heq]; exact h
  · rw [heq]; exact labelChange_operating _ _

/-- A neighbour heard leaves an operating cell in an operating role. -/
theorem operating_heard {s : State} (d : Dir) (h : s.role.operating = true) : (heard d s).role.operating = true := by
  obtain ⟨-, heq⟩ | ⟨-, heq⟩ := heard_cases d s
  · rw [heq]; exact h
  · rw [heq]; exact operating_reevaluate d h

/-- A frame's source heard leaves an operating cell in an operating role. -/
theorem operating_hearSource {s : State} (nd : Option Dir) (h : s.role.operating = true) :
    (hearSource nd s).role.operating = true := by
  cases nd with
  | none => exact h
  | some d => exact operating_heard d h

/-- A property kept by a neighbour heard is kept by a frame's source heard. -/
theorem keptBy_hearSource {P : State → Prop} (hheard : ∀ d, KeptBy P (heard d)) (nd : Option Dir) : KeptBy P (hearSource nd) := by
  cases nd with
  | none => exact fun _ _ hs => hs
  | some d => exact hheard d

/-- A received frame keeps what its acknowledgement, the entry to MUTE and its handler keep. -/
theorem LineKeeps.receiveFrame {P : State → Prop} (hL : LineKeeps P) {handler : Option Dir → State → State}
    (hhandler : ∀ nd, KeptBy P (handler nd)) (source : Station) : KeptBy P (receiveFrame source handler) := by
  intro s hop hs
  have hack : P (Machine.acknowledgeFrame s) := hL.acknowledgeFrame s hop hs
  obtain heq | ⟨hidle, heq⟩ | heq := receiveFrame_cases source handler s
  · rw [heq]; exact hs
  · rw [heq]; exact hL.ownFrame _ hop hidle hack
  · rw [heq]; exact hhandler _ _ hop hack

/-- A frame that is handed on after its source was heard keeps what the two keep. -/
theorem keptBy_afterHearing {P : State → Prop} (hheard : ∀ d, KeptBy P (heard d)) {g : State → State} (hg : KeptBy P g)
    (nd : Option Dir) : KeptBy P fun s => g (Machine.hearSource nd s) :=
  fun s hop hs => hg _ (operating_hearSource nd hop) (keptBy_hearSource hheard nd s hop hs)

/-- A message is discarded, answered LOCKED, or taken in a state whose lock flag is clear. -/
theorem takeMessage_cases (f : State → State) (s : State) :
    takeMessage f s = s
    ∨ (s.role ≠ .inReset ∧ s.port = .ready ∧ s.store.lock = true ∧ takeMessage f s = answer .locked [] s)
    ∨ (s.role ≠ .inReset ∧ s.port = .ready ∧ s.store.lock = false ∧ takeMessage f s = f s) := by
  by_cases hrole : s.role = .inReset
  · exact .inl (if_pos hrole)
  · unfold takeMessage
    rw [if_neg hrole]
    cases hport : s.port with
    | ready => cases hlock : s.store.lock <;> simp [hrole]
    | writing _ => exact .inl rfl
    | replying _ => exact .inl rfl

/-- A message keeps what an answer keeps and what it does under a clear lock flag keeps. -/
theorem StoreKeepsFor.takeMessage {c : Instr} {P : State → Prop} (hS : StoreKeepsFor c P) {f : State → State} {s : State}
    (hf : s.store.lock = false → P s → P (f s)) (hs : P s) : P (takeMessage f s) := by
  obtain heq | ⟨-, -, -, heq⟩ | ⟨-, -, hlock, heq⟩ := takeMessage_cases f s
  · rw [heq]; exact hs
  · rw [heq]; exact hS.answer _ _ s hs
  · rw [heq]; exact hf hlock hs

/-- A power-on reset keeps what its three outcomes keep. -/
theorem StoreKeepsFor.powerOnReset {P : State → Prop} {inputs : StartInputs} (hS : StoreKeepsFor (.powerOnReset inputs) P)
    {s t : State} (hs : P s) (h : exec (.powerOnReset inputs) s = .next t) : P t := by
  simp only [exec, execPowerOnReset] at h
  cases h
  split
  · exact hS.enterService inputs rfl s hs
  · split
    · rename_i hgood; exact hS.startOperating inputs rfl s hgood hs
    · exact hS.enterUncommissioned inputs rfl s hs

/-! ### Every command, every step -/

/-- What the operations keep that a command may run, the command keeps. -/
theorem exec_keeps_for {P : State → Prop} {c : Instr} (hE : EdgesKeepFor c P) (hB : BlocksKeep P) (hL : LineKeeps P)
    (hS : StoreKeepsFor c P) {s t : State} (hs : P s) (h : exec c s = .next t) : P t := by
  cases c with
  | powerOnReset inputs => exact hS.powerOnReset hs h
  | rawInputChange d level => exact (hE.rawChanged d level rfl).whenOperating hs h
  | settleExpiry d => exact (hE.settleEnded d rfl).whenOperating hs h
  | burstTimerExpiry => exact (hE.burstStopped rfl).whenOperating hs h
  | decayExpiry => exact (hE.decayEnded rfl).whenOperating hs h
  | silenceTimerExpiry d => exact (hE.silenceEnded d rfl).whenOperating hs h
  | markReceived source payload =>
    refine (hL.receiveFrame (fun nd => ?_) source).whenOperating hs h
    cases nd with
    | none => exact fun _ _ hs => hs
    | some d => exact hE.takeMark d _
  | quietExpiry => exact hB.quietEnded.whenOperating hs h
  | gatherEnd => exact hB.gatherEnded.whenOperating hs h
  | roundClose => exact hB.roundClosed.whenOperating hs h
  | tallyReceived source payload =>
    exact (hL.receiveFrame (keptBy_afterHearing hE.heard (hB.headTally source _)) source).whenOperating hs h
  | nudgeReceived source payload =>
    exact (hL.receiveFrame (keptBy_afterHearing hE.heard (hB.headNudge _)) source).whenOperating hs h
  | presetReceived source payload =>
    exact (hL.receiveFrame (keptBy_afterHearing hE.heard (hB.filterPreset source _)) source).whenOperating hs h
  | scheduleReceived source payload =>
    exact (hL.receiveFrame (keptBy_afterHearing hE.heard (hB.filterSchedule source _)) source).whenOperating hs h
  | orderReceived source payload =>
    exact (hL.receiveFrame (keptBy_afterHearing hE.heard (hB.takeOrder _)) source).whenOperating hs h
  | unknownKindFrame source kind length => exact (hL.receiveFrame (keptBy_hearSource hE.heard) source).whenOperating hs h
  | duplicateInAttempt => exact hL.duplicateDetected.whenOperating hs h
  | orderTimeout => exact hB.orderTimedOut.whenOperating hs h
  | localRound => exact hB.localRoundEnded.whenOperating hs h
  | occupancyAssertion => exact hB.contactAsserted.whenOperating hs h
  | occupancyRelease => exact hB.contactReleased.whenOperating hs h
  | holdTimerExpiry => exact hB.holdEnded.whenOperating hs h
  | residencyMet => exact hB.residencyReached.whenOperating hs h
  | fadeStep =>
    simp only [exec, execFadeStep] at h
    cases h
    split
    · exact hS.fadeStepped s hs
    · exact hs
  | sensorRead result => exact (hB.readSensor result).whenOperating hs h
  | keyPress key => exact (hB.keyPressed key).whenOperating hs h
  | attemptStart => exact hL.attemptStarted.whenOperating hs h
  | arbitrationLoss => exact hL.arbitrationLost.whenOperating hs h
  | acknowledged => exact hL.attemptAcknowledged.whenOperating hs h
  | unacknowledged => exact hL.attemptUnacknowledged.whenOperating hs h
  | backoffEnd => exact hL.backoffEnded.whenOperating hs h
  | lineIdle => exact hL.gapEnded.whenOperating hs h
  | lostStep => exact hL.stepLost.whenOperating hs h
  | resynchronisationSilence => exact hL.silenceRead.whenOperating hs h
  | promotion slot => exact (hL.promoted slot).whenOperating hs h
  | beaconExpiry => exact hL.beaconEnded.whenOperating hs h
  | readRecord data =>
    cases h
    exact hS.takeMessage (fun _ hs => by split <;> exact hS.answer _ _ s hs) hs
  | writeRecord data =>
    cases h
    refine hS.takeMessage (fun hlock hs => ?_) hs
    split
    · rename_i hlen
      split
      · rename_i hcheck; exact hS.beginWrite data rfl hcheck s hlen hlock hs
      · exact hS.answer _ _ s hs
    · exact hS.answer _ _ s hs
  | writeComplete => cases h; exact hS.writeCompleted rfl s hs
  | driveOutputs data =>
    cases h
    refine hS.takeMessage (fun hlock hs => ?_) hs
    split
    · exact hS.answer _ _ _ (hS.drive data rfl s hlock hs)
    · exact hS.answer _ _ s hs
  | unknownCommand code data => cases h; exact hS.takeMessage (fun _ hs => hS.answer _ _ s hs) hs
  | messageIncomplete bytes => cases h; exact hS.takeMessage (fun _ hs => hS.answer _ _ s hs) hs
  | startBit => exact hL.startBitRead.whenOperating hs h
  | replySent => cases h; exact hS.replyEnded s hs
  | resetStart => cases h; exact hS.resetStarted rfl s hs

/-- What every operation keeps, every command keeps. -/
theorem exec_keeps {P : State → Prop} (hE : EdgesKeep P) (hB : BlocksKeep P) (hL : LineKeeps P) (hS : StoreKeeps P)
    {c : Instr} {s t : State} (hs : P s) (h : exec c s = .next t) : P t :=
  exec_keeps_for (hE.toFor c) hB hL (hS.toFor c) hs h

/-- What the clock's choice runs: a due event, in a state that differs in the count of ties alone. -/
theorem clockChoice_some {s t : State} {c : Instr} (h : clockChoice s = some (c, t)) : ∃ n, t = { s with ties := n } := by
  unfold clockChoice at h
  split at h
  · cases h
  · cases h; exact ⟨s.ties, rfl⟩
  · cases h; exact ⟨_, rfl⟩

/-- What every command and one bit time keep, and what neither the queue nor the count of ties touches, every step keeps. -/
theorem step_keeps {P : State → Prop} (hqueue : ∀ s q n, P s → P { s with pending := q, ties := n })
    (htime : ∀ s, P s → P (advance s)) (hexec : ∀ {c s t}, P s → exec c s = .next t → P t) {s t : State} (hs : P s)
    (h : step s = .next t) : P t := by
  unfold step at h
  split at h
  · rename_i c rest _
    exact hexec (hqueue s rest s.ties hs) h
  · unfold idleStep at h
    split at h
    · cases h; exact htime s hs
    · rename_i c u hchoice
      obtain ⟨n, rfl⟩ := clockChoice_some hchoice
      exact hexec (hqueue s s.pending n hs) h

end Sys2Proof.Machine
end

section
/-! PROOF. Whole blocks at once: a property that reads no edge and no churn is kept by the Edge Monitor and the Churn Monitor when
a queued MARK and a label change keep it; and the other blocks leave the edges, the churn, the label, the parameters, the store and
the port as they are, whatever they do. -/

namespace Sys2Proof.Machine

/-! ### A settled track and a stored MARK -/

/-- The entry a settle expiry leaves, but for its effective state (R3, R28). -/
def settledEdge (hold : Bool) (e : Edge) : Edge :=
  { e with settle := none, sensed := trackOf e.raw, applied := if hold then e.applied else trackOf e.raw }

/-- A settle expiry of an owned track whose settle timer runs: the entry, the churn event, and for an applied change the MARK and
the re-evaluation (R3). -/
theorem settleEnded_of_trackOwned {s : State} {d : Dir} (hkind : (edgeAt s d).kind = .trackOwned)
    (hruns : (edgeAt s d).settle.isSome = true) :
    settleEnded d s =
      if (settledEdge s.churn.hold (edgeAt s d)).applied = (edgeAt s d).applied then
        handChurnEvent (setEdge d (settledEdge s.churn.hold (edgeAt s d)) s)
      else reevaluate d (queueMark (handChurnEvent (setEdge d (settledEdge s.churn.hold (edgeAt s d)) s))) := by
  rw [settleEnded, if_pos ⟨hkind, hruns⟩]
  rfl

/-- A settle expiry without a running settle timer of an owned track does nothing. -/
theorem settleEnded_of_not {s : State} {d : Dir}
    (h : ¬ ((edgeAt s d).kind = .trackOwned ∧ (edgeAt s d).settle.isSome = true)) : settleEnded d s = s :=
  if_neg h

/-- The entry a stored MARK leaves while its mirror view is told on: the mismatch flag still stands (R11, log 7). -/
def mirroredEdge (a : Advert) (e : Edge) : Edge := { storedEdge a e with mismatch := e.mismatch }

/-- The state in which a MARK's mirror view is stored, with a MARK queued where the view has changed (R6, R7). -/
def mirrorTold (d : Dir) (a : Advert) (s : State) : State :=
  if (storedEdge a (edgeAt s d)).mirror = (edgeAt s d).mirror then setEdge d (mirroredEdge a (edgeAt s d)) s
  else queueMark (setEdge d (mirroredEdge a (edgeAt s d)) s)

/-- A neighbour's MARK: the mirror view told on, the mismatch flag, the re-evaluation, the arrival (R11). -/
theorem takeMark_eq_mirrorTold (d : Dir) (a : Advert) (s : State) :
    takeMark d a s = markArrival d a (reevaluate d (setEdge d (storedEdge a (edgeAt s d)) (mirrorTold d a s))) := by
  by_cases hkind : (edgeAt s d).kind = .trackMirror <;>
    simp only [takeMark, mirrorTold, mirroredEdge, storedEdge, hkind, if_true, if_false]

/-! ### Properties that read no edge and no churn -/

/-- `P` reads neither edges nor churn nor ties, and a queued MARK and a label change to the best candidate of an epoch keep it. -/
structure LabelsKeep (P : State → Prop) : Prop where
  edges : ∀ s edges churn ties, P s → P { s with edges := edges, churn := churn, ties := ties }
  queueMark : KeptBy P queueMark
  adoptEpoch : ∀ epoch, KeptBy P (adoptEpoch epoch)

/-- What one direction's change keeps, the changes of several directions keep. -/
theorem foldl_keeps {Q : State → Prop} {f : State → Dir → State} (hf : ∀ s d, Q s → Q (f s d)) (ds : List Dir) {s : State}
    (hs : Q s) : Q (ds.foldl f s) := by
  induction ds generalizing s with
  | nil => exact hs
  | cons d ds ih => exact ih (hf s d hs)

namespace LabelsKeep

variable {P : State → Prop} (h : LabelsKeep P)

include h

theorem setEdge (d : Dir) (e : Edge) {s : State} (hs : P s) : P (setEdge d e s) := h.edges s _ s.churn s.ties hs

theorem churn (ch : Churn) {s : State} (hs : P s) : P { s with churn := ch } := h.edges s s.edges ch s.ties hs

theorem reevaluate (d : Dir) : KeptBy P (reevaluate d) := by
  intro s hop hs
  obtain ⟨-, heq⟩ | ⟨-, heq⟩ := reevaluate_cases d s
  · rw [heq]; exact hs
  · rw [heq]; exact h.adoptEpoch _ _ hop (h.setEdge _ _ hs)

theorem markArrival (d : Dir) (a : Advert) : KeptBy P (markArrival d a) := by
  intro s hop hs
  obtain heq | heq | ⟨e, heq⟩ := markArrival_cases d a s
  · rw [heq]; exact hs
  · rw [heq]; exact h.queueMark s hop hs
  · rw [heq]; exact h.adoptEpoch e s hop hs

theorem churnEvent {s : State} (hs : P s) : P (churnEvent s) := by
  obtain ⟨-, heq⟩ | ⟨-, c, -, heq⟩ := churnEvent_cases s
  · rw [heq]; exact hs
  · rw [heq]; exact h.churn _ hs

theorem copyTrack (d : Dir) : KeptBy P fun s => copyTrack s d := by
  intro s hop hs
  unfold Machine.copyTrack
  dsimp only
  split
  · exact h.setEdge _ _ (h.queueMark _ hop (h.setEdge _ _ hs))
  · exact hs

theorem releaseHold : KeptBy P releaseHold := by
  intro s hop hs
  have hcopied := foldl_keeps (Q := fun t => t.role.operating = true ∧ P t)
    (fun t d ht => ⟨by simpa using ht.1, h.copyTrack d t ht.1 ht.2⟩) allDirs (s := { s with churn := { s.churn with hold := false } })
    ⟨hop, h.churn _ hs⟩
  unfold Machine.releaseHold
  refine (foldl_keeps (Q := fun t => t.role.operating = true ∧ P t) (fun t d ht => ?_) allDirs hcopied).2
  split
  · exact ht
  · exact ⟨labelChange_operating _ t, h.adoptEpoch _ t ht.1 ht.2⟩

theorem decayEnded : KeptBy P decayEnded := by
  intro s hop hs
  unfold Machine.decayEnded
  dsimp only
  split
  · split
    · exact h.releaseHold _ hop (h.churn _ hs)
    · exact h.churn _ hs
  · exact hs

theorem handChurnEvent : KeptBy P handChurnEvent := by
  intro s hop hs
  obtain heq | ⟨-, -, heq | heq⟩ := handChurnEvent_cases s
  · rw [heq]; exact h.churnEvent hs
  · rw [heq]; exact h.churnEvent (h.edges s s.edges s.churn _ hs)
  · rw [heq]; exact h.churnEvent (h.decayEnded _ hop (h.edges s s.edges s.churn _ hs))

end LabelsKeep

/-- The operating roles are kept. -/
theorem labelsKeep_operating : LabelsKeep fun t => t.role.operating = true where
  edges _ _ _ _ hs := hs
  queueMark _ hop _ := hop
  adoptEpoch _ s _ _ := labelChange_operating _ s

/-- The operating roles are kept by a queued MARK before a re-evaluation too. -/
theorem operating_handChurnEvent {s : State} (hop : s.role.operating = true) : (handChurnEvent s).role.operating = true :=
  labelsKeep_operating.handChurnEvent s hop hop

namespace LabelsKeep

variable {P : State → Prop} (h : LabelsKeep P)

include h

theorem settleEnded (d : Dir) : KeptBy P (settleEnded d) := by
  intro s hop hs
  by_cases howned : (edgeAt s d).kind = .trackOwned ∧ (edgeAt s d).settle.isSome = true
  · rw [settleEnded_of_trackOwned howned.1 howned.2]
    generalize hset : Machine.setEdge d (settledEdge s.churn.hold (edgeAt s d)) s = settled
    have hop1 : settled.role.operating = true := by rw [← hset]; exact hop
    have hsettled : P settled := by rw [← hset]; exact h.setEdge _ _ hs
    have hop2 : (Machine.handChurnEvent settled).role.operating = true := operating_handChurnEvent hop1
    have hevent : P (Machine.handChurnEvent settled) := h.handChurnEvent settled hop1 hsettled
    split
    · exact hevent
    · exact h.reevaluate d _ hop2 (h.queueMark _ hop2 hevent)
  · rw [settleEnded_of_not howned]
    exact hs

theorem heard (d : Dir) : KeptBy P (heard d) := by
  intro s hop hs
  obtain ⟨-, heq⟩ | ⟨-, heq⟩ := heard_cases d s
  · rw [heq]; exact h.setEdge _ _ hs
  · rw [heq]; exact h.reevaluate d _ hop (h.setEdge _ _ hs)

theorem takeMark (d : Dir) (a : Advert) : KeptBy P (takeMark d a) := by
  intro s hop hs
  have htold : (mirrorTold d a s).role.operating = true ∧ P (mirrorTold d a s) := by
    unfold mirrorTold
    split
    · exact ⟨hop, h.setEdge _ _ hs⟩
    · exact ⟨hop, h.queueMark _ hop (h.setEdge _ _ hs)⟩
  rw [takeMark_eq_mirrorTold]
  exact h.markArrival d a _ (operating_reevaluate d htold.1) (h.reevaluate d _ htold.1 (h.setEdge _ _ htold.2))

/-- Such a property is kept by the Edge Monitor and the Churn Monitor. -/
theorem edgesKeep : EdgesKeep P where
  rawChanged d level s _ hs := by
    unfold rawChanged
    dsimp only
    split
    · exact h.setEdge _ _ hs
    · exact hs
  settleEnded := h.settleEnded
  burstStopped s _ hs := h.churn _ hs
  decayEnded := h.decayEnded
  silenceEnded d s hop hs := by
    unfold silenceEnded
    dsimp only
    split
    · exact h.reevaluate d _ hop (h.setEdge _ _ hs)
    · exact hs
  heard := h.heard
  takeMark := h.takeMark

end LabelsKeep

end Sys2Proof.Machine
end

section
/-! PROOF. What the Zone Head, Cell Control, the Gateway Filter and the Floor Line Interface leave alone: edges, churn, label,
parameters, store, port and queue. A property that reads nothing else is kept by all of them. -/

namespace Sys2Proof.Machine

/-- The edges, the churn, the label, the parameters, the store, the port and the queue stand, and the cell operates. -/
structure SameLabels (s t : State) : Prop where
  edges : t.edges = s.edges
  churn : t.churn = s.churn
  label : t.label = s.label
  params : t.params = s.params
  store : t.store = s.store
  port : t.port = s.port
  ties : t.ties = s.ties
  pending : t.pending = s.pending
  operating : t.role.operating = true

namespace SameLabels

theorem refl {s : State} (hop : s.role.operating = true) : SameLabels s s := ⟨rfl, rfl, rfl, rfl, rfl, rfl, rfl, rfl, hop⟩

theorem trans {s t u : State} (h1 : SameLabels s t) (h2 : SameLabels t u) : SameLabels s u :=
  ⟨h2.edges.trans h1.edges, h2.churn.trans h1.churn, h2.label.trans h1.label, h2.params.trans h1.params,
    h2.store.trans h1.store, h2.port.trans h1.port, h2.ties.trans h1.ties, h2.pending.trans h1.pending, h2.operating⟩

/-! ### The shared operations -/

theorem queueOrder (kind : OrderKind) (z : Zone) {s : State} (hop : s.role.operating = true) :
    SameLabels s (queueOrder kind z s) := by
  constructor <;> simp [hop]

theorem headDeltas (d : Deltas) (z : Zone) {s : State} (hop : s.role.operating = true) : SameLabels s (headDeltas d z s) := by
  constructor <;> simp [hop]

theorem formLocalTarget {s : State} (hop : s.role.operating = true) : SameLabels s (formLocalTarget s) := by
  constructor <;> simp [hop]

theorem fastPath {s : State} (hop : s.role.operating = true) : SameLabels s (fastPath s) := by
  constructor <;> simp [hop]

theorem headOnset {s : State} (hop : s.role.operating = true) : SameLabels s (headOnset s) := by
  constructor <;> simp [hop]

theorem offerNudge {s : State} (hop : s.role.operating = true) : SameLabels s (offerNudge s) := by
  constructor <;> simp [hop]

theorem reportLeaving (id : SlotId) {s : State} (hop : s.role.operating = true) : SameLabels s (reportLeaving id s) := by
  constructor <;> simp [hop]

theorem enterMute {s : State} (hop : s.role.operating = true) : SameLabels s (enterMute s) := by
  unfold Machine.enterMute
  split
  · exact refl hop
  · constructor <;> simp [Role.operating]

theorem extraTally {s : State} (hop : s.role.operating = true) : SameLabels s (extraTally s) := by
  unfold Machine.extraTally
  split
  · exact refl hop
  · constructor <;> simp [hop]

theorem occupancyOnset {s : State} (hop : s.role.operating = true) : SameLabels s (occupancyOnset s) := by
  unfold Machine.occupancyOnset
  split
  case h_1 => exact (extraTally hop).trans (fastPath (extraTally hop).operating)
  case h_2 => exact (headOnset hop).trans (fastPath (headOnset hop).operating)
  case h_3 => exact fastPath hop
  case h_4 => exact formLocalTarget hop
  case h_5 => exact formLocalTarget hop
  all_goals exact refl hop

/-! ### The operations of the blocks -/

theorem quietEnded {s : State} (hop : s.role.operating = true) : SameLabels s (quietEnded s) := by
  unfold Machine.quietEnded
  split
  · split
    · constructor <;> simp [enterHeadGather, Role.operating]
    · constructor <;> simp [enterAwait, Role.operating]
  · exact refl hop

theorem gatherEnded {s : State} (hop : s.role.operating = true) : SameLabels s (gatherEnded s) := by
  unfold Machine.gatherEnded
  split
  · exact refl hop
  · split
    · constructor <;> simp [Role.operating]
    · exact refl hop

theorem roundClosed {s : State} (hop : s.role.operating = true) : SameLabels s (roundClosed s) := by
  unfold Machine.roundClosed
  split
  · exact refl hop
  · split
    · exact queueOrder _ _ hop
    · exact refl hop

theorem filterPreset (source : Station) (p : Preset) {s : State} (hop : s.role.operating = true) :
    SameLabels s (filterPreset source p s) := by
  unfold Machine.filterPreset
  split
  · constructor <;> simp [hop]
  · exact refl hop

theorem setFloorMode (m : FloorMode) {s : State} (hop : s.role.operating = true) : SameLabels s (setFloorMode m s) := by
  unfold Machine.setFloorMode
  split
  · exact refl hop
  · split <;> constructor <;> simp [hop]

theorem filterSchedule (source : Station) (code : BitVec 8) {s : State} (hop : s.role.operating = true) :
    SameLabels s (filterSchedule source code s) := by
  unfold Machine.filterSchedule
  split
  · split
    · exact refl hop
    · exact setFloorMode _ hop
  · exact refl hop

theorem residencyReached {s : State} (hop : s.role.operating = true) : SameLabels s (residencyReached s) := by
  unfold Machine.residencyReached
  split
  · exact refl hop
  · split
    · exact ⟨rfl, rfl, rfl, rfl, rfl, rfl, rfl, rfl, hop⟩
    · exact refl hop
    · exact refl hop

theorem takeOrder (o : Order) {s : State} (hop : s.role.operating = true) : SameLabels s (takeOrder o s) := by
  have hrole : (Machine.takeOrder o s).role.operating = true := by
    unfold Machine.takeOrder
    split
    · rw [acceptOrder_role]; rfl
    · exact hop
  constructor <;> simp [hrole]

theorem orderTimedOut {s : State} (hop : s.role.operating = true) : SameLabels s (orderTimedOut s) := by
  unfold Machine.orderTimedOut
  split
  · constructor <;> simp [enterOrphan, Role.operating]
  · exact refl hop

theorem localRoundEnded {s : State} (hop : s.role.operating = true) : SameLabels s (localRoundEnded s) := by
  unfold Machine.localRoundEnded
  split
  · constructor <;> simp [hop]
  · exact refl hop

theorem contactAsserted {s : State} (hop : s.role.operating = true) : SameLabels s (contactAsserted s) := by
  unfold Machine.contactAsserted
  dsimp only
  split
  · exact ⟨rfl, rfl, rfl, rfl, rfl, rfl, rfl, rfl, hop⟩
  · have hheld := occupancyOnset (s := { s with cell := { s.cell with contact := true, occupied := true, hold := .held } }) hop
    exact ⟨hheld.edges, hheld.churn, hheld.label, hheld.params, hheld.store, hheld.port, hheld.ties, hheld.pending,
      hheld.operating⟩

theorem holdEnded {s : State} (hop : s.role.operating = true) : SameLabels s (holdEnded s) := by
  unfold Machine.holdEnded
  split
  · dsimp only
    split <;> constructor <;> simp [hop]
  · exact refl hop
  · exact refl hop

theorem pressLocal (d : Deltas) {s : State} (hop : s.role.operating = true) : SameLabels s (pressLocal d s) := by
  unfold Machine.pressLocal
  dsimp only
  split <;> constructor <;> simp [hop]

theorem keyPressed (key : Key) {s : State} (hop : s.role.operating = true) : SameLabels s (keyPressed key s) := by
  have hadd : SameLabels s (addToNudge (keyStep key) s) := by constructor <;> simp [hop]
  have hhead : SameLabels s (match s.zone with | none => s | some z => Machine.headDeltas (keyStep key) z s) := by
    split
    · exact refl hop
    · exact headDeltas _ _ hop
  unfold Machine.keyPressed
  split
  case h_1 => exact hadd
  case h_2 => exact hadd
  case h_3 => exact hadd.trans (offerNudge hadd.operating)
  case h_4 => exact hhead
  case h_5 => exact hhead
  case h_6 => exact pressLocal _ hop
  case h_7 => exact pressLocal _ hop
  all_goals exact refl hop

/-! ### The operations of the line -/

/-- A change of slots and line leaves the rest alone. -/
theorem slotsLine {s : State} (sl : Slots) (l : Line) (hop : s.role.operating = true) :
    SameLabels s { s with slots := sl, line := l } := ⟨rfl, rfl, rfl, rfl, rfl, rfl, rfl, rfl, hop⟩

theorem duplicateDetected {s : State} (hop : s.role.operating = true) : SameLabels s (duplicateDetected s) := by
  unfold Machine.duplicateDetected
  split
  · exact refl hop
  · exact (slotsLine _ _ hop).trans (enterMute hop)

theorem attemptStarted {s : State} (hop : s.role.operating = true) : SameLabels s (attemptStarted s) := by
  unfold Machine.attemptStarted
  split
  · split
    · exact refl hop
    · exact slotsLine _ _ hop
  · exact refl hop

theorem arbitrationLost {s : State} (hop : s.role.operating = true) : SameLabels s (arbitrationLost s) := by
  unfold Machine.arbitrationLost
  split
  · exact refl hop
  · exact slotsLine _ _ hop

theorem attemptAcknowledged {s : State} (hop : s.role.operating = true) : SameLabels s (attemptAcknowledged s) := by
  unfold Machine.attemptAcknowledged
  split
  · exact refl hop
  · exact (slotsLine _ _ hop).trans (reportLeaving _ hop)

theorem attemptUnacknowledged {s : State} (hop : s.role.operating = true) : SameLabels s (attemptUnacknowledged s) := by
  unfold Machine.attemptUnacknowledged
  split
  · exact refl hop
  · rename_i a _
    split
    · exact slotsLine _ _ hop
    · have hleft := (slotsLine (mapSlot leaveSlot a.slot s.slots) { s.line with attempt := none, unheard := true } hop).trans
        (reportLeaving a.slot hop)
      exact hleft.trans (slotsLine _ _ hleft.operating)

theorem ofIf {s t : State} (c : Prop) [Decidable c] (ht : SameLabels s t) (hop : s.role.operating = true) :
    SameLabels s (if c then t else s) := by
  split
  · exact ht
  · exact refl hop

theorem beaconEnded {s : State} (hop : s.role.operating = true) : SameLabels s (beaconEnded s) := by
  refine ofIf _ ?_ hop
  split <;> exact slotsLine _ _ hop

end SameLabels

/-! ### Properties that read nothing else -/

/-- A property that reads edges, churn, label, parameters, store and port alone, and of the role that it is an operating one. -/
def ReadsLabels (P : State → Prop) : Prop := ∀ s t, s.role.operating = true → SameLabels s t → P s → P t

/-- Such a property is kept by the Zone Head, Cell Control and the Gateway Filter. -/
theorem ReadsLabels.blocksKeep {P : State → Prop} (h : ReadsLabels P) : BlocksKeep P where
  quietEnded s hop := h s _ hop (.quietEnded hop)
  gatherEnded s hop := h s _ hop (.gatherEnded hop)
  roundClosed s hop := h s _ hop (.roundClosed hop)
  headTally source t s hop := h s _ hop (by constructor <;> simp [hop])
  headNudge n s hop := h s _ hop (by constructor <;> simp [hop])
  filterPreset source p s hop := h s _ hop (.filterPreset source p hop)
  filterSchedule source code s hop := h s _ hop (.filterSchedule source code hop)
  residencyReached s hop := h s _ hop (.residencyReached hop)
  takeOrder o s hop := h s _ hop (.takeOrder o hop)
  orderTimedOut s hop := h s _ hop (.orderTimedOut hop)
  localRoundEnded s hop := h s _ hop (.localRoundEnded hop)
  contactAsserted s hop := h s _ hop (.contactAsserted hop)
  contactReleased s hop := h s _ hop ⟨rfl, rfl, rfl, rfl, rfl, rfl, rfl, rfl, hop⟩
  holdEnded s hop := h s _ hop (.holdEnded hop)
  readSensor r s hop := h s _ hop (by constructor <;> simp [hop])
  keyPressed key s hop := h s _ hop (.keyPressed key hop)

/-- Such a property is kept by the Floor Line Interface. -/
theorem ReadsLabels.lineKeeps {P : State → Prop} (h : ReadsLabels P) : LineKeeps P where
  acknowledgeFrame s hop := h s _ hop (.slotsLine _ _ hop)
  ownFrame s hop _ := h s _ hop (.enterMute hop)
  duplicateDetected s hop := h s _ hop (.duplicateDetected hop)
  attemptStarted s hop := h s _ hop (.attemptStarted hop)
  arbitrationLost s hop := h s _ hop (.arbitrationLost hop)
  attemptAcknowledged s hop := h s _ hop (.attemptAcknowledged hop)
  attemptUnacknowledged s hop := h s _ hop (.attemptUnacknowledged hop)
  backoffEnded s hop := h s _ hop (.slotsLine _ _ hop)
  gapEnded s hop := h s _ hop (.ofIf _ (.slotsLine _ _ hop) hop)
  stepLost s hop := h s _ hop (.ofIf _ (.slotsLine _ _ hop) hop)
  silenceRead s hop := h s _ hop (.ofIf _ (.slotsLine _ _ hop) hop)
  promoted _ s hop := h s _ hop (.slotsLine _ _ hop)
  beaconEnded s hop := h s _ hop (.beaconEnded hop)
  startBitRead s hop := h s _ hop (.ofIf _ (.slotsLine _ _ hop) hop)

/-! ### Properties that read no line -/

/-- `P` reads neither slots nor line, and the entry to MUTE and the end of a flight keep it. -/
structure BlindToLine (P : State → Prop) : Prop where
  slotsLine : ∀ s sl l, P s → P { s with slots := sl, line := l }
  enterMute : KeptBy P enterMute
  flightEnd : KeptBy P flightEnd

namespace BlindToLine

variable {P : State → Prop} (h : BlindToLine P)

include h

theorem reportLeaving (id : SlotId) : KeptBy P (reportLeaving id) := by
  intro s hop hs
  cases id with
  | mark => exact h.slotsLine s s.slots _ hs
  | nudge => exact h.flightEnd s hop hs
  | order => exact hs
  | tally => exact hs

theorem ofIf (c : Prop) [Decidable c] (sl : Slots) (l : Line) {s : State} (hs : P s) :
    P (if c then { s with slots := sl, line := l } else s) := by
  split
  · exact h.slotsLine s sl l hs
  · exact hs

/-- Such a property is kept by the Floor Line Interface. -/
theorem lineKeeps : LineKeeps P where
  acknowledgeFrame s _ hs := h.slotsLine s _ _ hs
  ownFrame s hop _ hs := h.enterMute s hop hs
  duplicateDetected s hop hs := by
    unfold duplicateDetected
    split
    · exact hs
    · exact h.enterMute _ hop (h.slotsLine s _ _ hs)
  attemptStarted s _ hs := by
    unfold attemptStarted
    split
    · split
      · exact hs
      · exact h.slotsLine s _ _ hs
    · exact hs
  arbitrationLost s _ hs := by
    unfold arbitrationLost
    split
    · exact hs
    · exact h.slotsLine s _ _ hs
  attemptAcknowledged s hop hs := by
    unfold attemptAcknowledged
    split
    · exact hs
    · exact h.reportLeaving _ _ hop (h.slotsLine s _ _ hs)
  attemptUnacknowledged s hop hs := by
    unfold attemptUnacknowledged
    split
    · exact hs
    · split
      · exact h.slotsLine s _ _ hs
      · exact h.slotsLine _ _ _ (h.reportLeaving _ _ hop (h.slotsLine s _ _ hs))
  backoffEnded s _ hs := h.slotsLine s s.slots _ hs
  gapEnded s _ hs := h.ofIf _ s.slots _ hs
  stepLost s _ hs := h.ofIf _ s.slots _ hs
  silenceRead s _ hs := h.ofIf _ s.slots _ hs
  promoted _ s _ hs := h.slotsLine s _ s.line hs
  beaconEnded s _ hs := by
    unfold beaconEnded
    dsimp only
    split
    · split <;> exact h.slotsLine s _ _ hs
    · exact hs
  startBitRead s _ hs := h.ofIf _ s.slots _ hs

end BlindToLine

end Sys2Proof.Machine
end

section
/-! PROOF. The resets, the start sequence, the fade and the service port: the states they leave, and the properties that read
neither the store nor the port. -/

namespace Sys2Proof.Machine

/-! ### The sensor and the start sequence -/

/-- The temperature a sensor read gives: a reading in -100..600, and none otherwise (R130). -/
def readTemperature : SensorReading → Option Int
  | .noReply => none
  | .reading t => if -100 ≤ t ∧ t ≤ 600 then some t else none

/-- A present temperature lies in the sensor's range. -/
theorem readTemperature_within {r : SensorReading} : ∀ t ∈ readTemperature r, Within (-100) 600 t := by
  intro t ht
  cases r with
  | noReply => cases ht
  | reading x =>
    by_cases hx : -100 ≤ x ∧ x ≤ 600
    · obtain rfl : x = t := by simpa [readTemperature, hx] using ht
      exact hx
    · simp [readTemperature, hx] at ht

/-- A sensor read takes the temperature it gives, with TEMP_FAULT exactly when it gives none (R130). -/
theorem readSensor_eq (r : SensorReading) (s : State) : readSensor r s = { s with cell := { s.cell with
    temperature := readTemperature r, tempFault := (readTemperature r).isNone } } := by
  cases r with
  | noReply => rfl
  | reading x => by_cases hx : -100 ≤ x ∧ x ≤ 600 <;> simp [readSensor, readTemperature, hx]

/-- The start sequence leaves its start state with the first MARK queued, the sensor read and the contact taken (R175). -/
theorem startOperating_eq (inputs : StartInputs) (s : State) :
    startOperating inputs s = { queueMark (startState s.store.bytes inputs.tracks s) with
      cell := { (startState s.store.bytes inputs.tracks s).cell with
        temperature := readTemperature inputs.sensor
        tempFault := (readTemperature inputs.sensor).isNone
        contact := inputs.contact
        occupied := inputs.contact
        hold := if inputs.contact = true then .held else .stopped } } := by
  unfold startOperating
  rw [readSensor_eq]
  cases inputs.contact <;> rfl

/-- An entry at start has no running timer and no neighbour heard, and is CLOSED (R18, R19). -/
theorem startEdge_cases (own : Station) (bytes : List Byte) (tracks : PerDir Level) (d : Dir) :
    ∃ kind neighbour raw, startEdge own bytes tracks d =
        { Edge.unused with kind := kind, neighbour := neighbour, raw := raw, sensed := trackOf raw, applied := trackOf raw } := by
  unfold startEdge
  dsimp only
  split
  · exact ⟨_, _, _, rfl⟩
  · exact ⟨_, _, .inactive, rfl⟩

/-! ### The roles at rest -/

/-- The state a reset leaves but for a start with a good record: a role at rest, the outputs, and the stored record (R175 to
R177). -/
def restState (role : Role) (light : Light) (damper reheat : Int) (store : Store) (s : State) : State :=
  { State.reset with
    role := role
    light := light
    cell := { Cell.uncommissioned with damper := damper, reheat := reheat }
    store := store
    ties := s.ties
    pending := s.pending }

theorem resetStarted_eq (s : State) : outputsOff { wiped s with role := .inReset } =
    restState .inReset { target := 0, output := 0, phase := 0 } 0 0 { s.store with lock := true } s := rfl

theorem enterService_eq (s : State) : enterService s =
    restState .service { target := 0, output := 0, phase := 0 } 0 0 { s.store with lock := false } s := rfl

theorem enterUncommissioned_eq (s : State) : enterUncommissioned s =
    restState .uncommissioned { target := 700, output := 0, phase := 0 } 200 0 { s.store with lock := true } s := rfl

/-! ### The fade and the service port -/

/-- A fade step moves the output toward the target and keeps the target (R116). -/
theorem fadeStepped_cases (s : State) :
    ∃ output phase, fadeStepped s = { s with light := { s.light with output := output, phase := phase } }
      ∧ (s.light.output ≤ output ∧ output ≤ s.light.target ∨ s.light.target ≤ output ∧ output ≤ s.light.output
        ∨ output = s.light.output) := by
  unfold fadeStepped
  split
  · exact ⟨_, _, rfl, by omega⟩
  · split
    · exact ⟨_, _, rfl, by omega⟩
    · exact ⟨_, _, rfl, .inr (.inr rfl)⟩

/-- A write that is complete stores the bytes it was sent and sets the written mark; at any other time nothing happens (R179). -/
theorem writeCompleted_cases (s : State) :
    (s.port.written = none ∧ writeCompleted s = s)
    ∨ ∃ data, s.port = .writing data ∧ writeCompleted s = { s with
        store := { s.store with bytes := data, written := true }, port := .replying ⟨.ok, []⟩ } := by
  unfold writeCompleted
  cases hport : s.port with
  | ready => exact .inl ⟨rfl, rfl⟩
  | writing data => exact .inr ⟨data, rfl, rfl⟩
  | replying _ => exact .inl ⟨rfl, rfl⟩

/-- A reply sent in full makes the port ready; at any other time nothing happens (R178). -/
theorem replyEnded_cases (s : State) : replyEnded s = s ∨ replyEnded s = { s with port := .ready } := by
  unfold replyEnded
  cases s.port with
  | ready => exact .inl rfl
  | writing _ => exact .inl rfl
  | replying _ => exact .inr rfl

/-- `P` reads neither the store, the port, the light nor the two output commands; it holds in every state at rest and after every
start. -/
structure BlindToPort (P : State → Prop) : Prop where
  port : ∀ s store port, P s → P { s with store := store, port := port }
  outputs : ∀ s light damper reheat, P s → P { s with light := light, cell := { s.cell with damper := damper, reheat := reheat } }
  rest : ∀ role light damper reheat store s, role.operating = false → P (restState role light damper reheat store s)
  start : ∀ inputs s, P (startOperating inputs s)

/-- Such a property is kept by the resets, the start sequence, the service port and the fade. -/
theorem BlindToPort.storeKeeps {P : State → Prop} (h : BlindToPort P) : StoreKeeps P where
  resetStarted s _ := by rw [resetStarted_eq]; exact h.rest _ _ _ _ _ s rfl
  enterService s _ := by rw [enterService_eq]; exact h.rest _ _ _ _ _ s rfl
  enterUncommissioned s _ := by rw [enterUncommissioned_eq]; exact h.rest _ _ _ _ _ s rfl
  startOperating inputs s _ _ := h.start inputs s
  answer _ _ s hs := h.port s s.store _ hs
  beginWrite _ s _ _ hs := h.port s _ _ hs
  drive _ s _ hs := h.outputs s _ _ _ hs
  writeCompleted s hs := by
    obtain ⟨-, heq⟩ | ⟨data, -, heq⟩ := writeCompleted_cases s
    · rw [heq]; exact hs
    · rw [heq]; exact h.port s _ _ hs
  replyEnded s hs := by
    obtain heq | heq := replyEnded_cases s
    · rw [heq]; exact hs
    · rw [heq]; exact h.port s s.store _ hs
  fadeStepped s hs := by
    obtain ⟨output, phase, heq, -⟩ := fadeStepped_cases s
    rw [heq]; exact h.outputs s _ s.cell.damper s.cell.reheat hs

end Sys2Proof.Machine
end

section
/-! PROOF. The Commissioning Store's invariant (R172, R174, R179): the lock flag and the role, the 42 bytes, the write in
progress. -/

namespace Sys2Proof.Machine

/-- The invariant of the Commissioning Store. -/
def StoreLocked (s : State) : Prop := s.lockSound ∧ s.storeSound

/-- An operating cell is not in SERVICE. -/
theorem ne_service_of_operating {s : State} (hop : s.role.operating = true) : s.role ≠ .service := by
  intro hrole
  simp [hrole, Role.operating] at hop

/-- In a role other than SERVICE the invariant says: the lock flag is set, the store holds 42 bytes, no write is in progress. -/
theorem storeLocked_iff {s : State} (hrole : s.role ≠ .service) :
    StoreLocked s ↔ s.store.lock = true ∧ s.store.bytes.length = 42 ∧ s.port.written = none := by
  constructor
  · rintro ⟨hlock, hlen, hwrite⟩
    refine ⟨by simpa [State.lockSound, hrole] using hlock, hlen, ?_⟩
    cases hw : s.port.written with
    | none => rfl
    | some d => exact absurd (hwrite d hw).2.2 hrole
  · rintro ⟨hlock, hlen, hwrite⟩
    exact ⟨by simp [State.lockSound, hlock, hrole], hlen, by simp [hwrite]⟩

/-- Two operating states with one store and one port both meet the invariant or neither does. -/
theorem storeLocked_of_eq {s t : State} (hs : s.role.operating = true) (ht : t.role.operating = true)
    (hstore : t.store = s.store) (hport : t.port = s.port) (h : StoreLocked s) : StoreLocked t := by
  rw [storeLocked_iff (ne_service_of_operating hs)] at h
  rw [storeLocked_iff (ne_service_of_operating ht), hstore, hport]
  exact h

theorem storeLocked_readsLabels : ReadsLabels StoreLocked :=
  fun _ _ hs h => storeLocked_of_eq hs h.operating h.store h.port

theorem storeLocked_labelsKeep : LabelsKeep StoreLocked where
  edges _ _ _ _ hs := hs
  queueMark _ _ hs := hs
  adoptEpoch _ s hop hs := storeLocked_of_eq hop (labelChange_operating _ s) (by simp) (by simp) hs

/-- A state at rest with no port in use meets the invariant when its lock flag agrees with its role. -/
theorem storeLocked_rest {role : Role} {light : Light} {damper reheat : Int} {store : Store} {s : State}
    (hlock : store.lock = false ↔ role = .service) (hlen : store.bytes.length = 42) :
    StoreLocked (restState role light damper reheat store s) :=
  ⟨hlock, hlen, fun d hd => by cases hd⟩

theorem storeLocked_storeKeeps : StoreKeeps StoreLocked where
  resetStarted s hs := by rw [resetStarted_eq]; exact storeLocked_rest (by simp) hs.2.1
  enterService s hs := by rw [enterService_eq]; exact storeLocked_rest (by simp) hs.2.1
  enterUncommissioned s hs := by rw [enterUncommissioned_eq]; exact storeLocked_rest (by simp) hs.2.1
  startOperating inputs s _ hs := by
    rw [startOperating_eq, storeLocked_iff (by simp [startState])]
    exact ⟨rfl, hs.2.1, rfl⟩
  answer _ _ _ hs := ⟨hs.1, hs.2.1, fun d hd => by cases hd⟩
  beginWrite data s hlen hlock hs := by
    refine ⟨hs.1, hs.2.1, fun d hd => ?_⟩
    obtain rfl : data = d := Option.some.inj hd
    exact ⟨hlen, rfl, hs.1.1 hlock⟩
  drive _ _ _ hs := hs
  writeCompleted s hs := by
    obtain ⟨-, heq⟩ | ⟨data, hport, heq⟩ := writeCompleted_cases s
    · rw [heq]; exact hs
    · rw [heq]
      have hdata := hs.2.2 data (by simp [hport, Port.written])
      exact ⟨hs.1, hdata.1, fun d hd => by cases hd⟩
  replyEnded s hs := by
    obtain heq | heq := replyEnded_cases s
    · rw [heq]; exact hs
    · rw [heq]; exact ⟨hs.1, hs.2.1, fun d hd => by cases hd⟩
  fadeStepped s hs := by
    obtain ⟨output, phase, heq, -⟩ := fadeStepped_cases s
    rw [heq]; exact hs

/-- Every command keeps the store's invariant. -/
theorem storeLocked_exec {c : Instr} {s t : State} (hs : StoreLocked s) (h : exec c s = .next t) : StoreLocked t :=
  exec_keeps storeLocked_labelsKeep.edgesKeep storeLocked_readsLabels.blocksKeep storeLocked_readsLabels.lineKeeps
    storeLocked_storeKeeps hs h

/-- Settles O15: the lock flag moves with the role at a reset only, and a write begins under a clear lock flag only. -/
theorem stepKeepsStoreLocked : Obligations.StepKeepsStoreLocked := fun _ _ hlock hstore h =>
  step_keeps (P := StoreLocked) (fun _ _ _ hs => hs) (fun _ hs => hs) storeLocked_exec ⟨hlock, hstore⟩ h

end Sys2Proof.Machine
end

section
/-! PROOF. The churn invariant (R21, R24, R27, R29): the count within the depth, the decay timer while it is above 0, HOLD while it
is at or above the threshold. -/

namespace Sys2Proof.Machine

/-! ### What the release of HOLD leaves alone -/

/-- What a label change leaves alone. -/
structure Relabelled (s t : State) : Prop where
  params : t.params = s.params
  edges : t.edges = s.edges
  churn : t.churn = s.churn
  light : t.light = s.light
  floorMode : t.floorMode = s.floorMode
  line : t.line = s.line
  store : t.store = s.store
  port : t.port = s.port
  ties : t.ties = s.ties
  pending : t.pending = s.pending

theorem Relabelled.refl (s : State) : Relabelled s s := ⟨rfl, rfl, rfl, rfl, rfl, rfl, rfl, rfl, rfl, rfl⟩

/-- One label change more. -/
theorem Relabelled.labelChange {s t : State} (h : Relabelled s t) (l : Label) : Relabelled s (labelChange l t) := by
  constructor
  · simpa using h.params
  · simpa using h.edges
  · simpa using h.churn
  · simpa using h.light
  · simpa using h.floorMode
  · simpa using h.line
  · simpa using h.store
  · simpa using h.port
  · simpa using h.ties
  · simpa using h.pending

/-- The copies of a release of HOLD, before the edge changes are handed on (R29, log 8). -/
def copiedTracks (s : State) : State := allDirs.foldl copyTrack { s with churn := { s.churn with hold := false } }

/-- A release of HOLD: the copies, then one opened epoch for each direction whose effective state they changed (R29). -/
theorem releaseHold_eq (s : State) : releaseHold s = allDirs.foldl (fun t d =>
    if (edgeAt (copiedTracks s) d).effective = (edgeAt s d).effective then t else openEpoch t) (copiedTracks s) := rfl

/-- The edge changes of a release relabel the state that its copies leave. -/
theorem releaseHold_relabelled (s : State) : Relabelled (copiedTracks s) (releaseHold s) := by
  rw [releaseHold_eq]
  refine foldl_keeps (Q := Relabelled (copiedTracks s)) (fun t d ht => ?_) allDirs (.refl _)
  split
  · exact ht
  · exact ht.labelChange _

/-- The copies of a release clear HOLD and leave all but entries and MARK slot alone. -/
theorem copiedTracks_frame (s : State) :
    (copiedTracks s).role = s.role ∧ (copiedTracks s).params = s.params ∧
    (copiedTracks s).churn = { s.churn with hold := false } ∧ (copiedTracks s).label = s.label ∧
    (copiedTracks s).quiet = s.quiet ∧ (copiedTracks s).zone = s.zone ∧ (copiedTracks s).cell = s.cell ∧
    (copiedTracks s).light = s.light ∧ (copiedTracks s).floorMode = s.floorMode ∧ (copiedTracks s).line = s.line ∧
    (copiedTracks s).store = s.store ∧ (copiedTracks s).port = s.port ∧ (copiedTracks s).ties = s.ties ∧
    (copiedTracks s).pending = s.pending := by
  simp [copiedTracks, allDirs]

/-- The release of HOLD clears HOLD and leaves count and timers. -/
theorem releaseHold_churn (s : State) : (releaseHold s).churn = { s.churn with hold := false } := by
  rw [(releaseHold_relabelled s).churn]
  exact (copiedTracks_frame s).2.2.1

/-- The release of HOLD leaves the parameters. -/
theorem releaseHold_params (s : State) : (releaseHold s).params = s.params := by
  rw [(releaseHold_relabelled s).params]
  exact (copiedTracks_frame s).2.1

/-- The release of HOLD writes each entry as one copy does (R29). -/
theorem edgeAt_releaseHold (s : State) (d : Dir) : edgeAt (releaseHold s) d = releasedEdge (edgeAt s d) := by
  rw [edgeAt_congr (releaseHold_relabelled s).edges, edgeAt, copiedTracks, foldl_copyTrack_edges]
  cases d <;> rfl

/-! ### The decay -/

/-- The churn after one decay, before the release of HOLD (R24). -/
def decayedChurn (p : Params) (c : Churn) : Churn :=
  { c with count := c.count - 1, decay := if 0 < c.count - 1 then some (minutes p.churnDecay) else none }

/-- A decay expiry without a running decay timer does nothing; any other takes one off the count, and below the threshold it
releases HOLD (R24). -/
theorem decayEnded_cases (s : State) :
    (s.churn.decay = none ∧ decayEnded s = s)
    ∨ (s.churn.decay.isSome = true ∧ s.churn.hold = true ∧ s.churn.count - 1 < s.params.churnThreshold
        ∧ decayEnded s = releaseHold { s with churn := decayedChurn s.params s.churn })
    ∨ (s.churn.decay.isSome = true ∧ (s.churn.hold = true → s.params.churnThreshold ≤ s.churn.count - 1)
        ∧ decayEnded s = { s with churn := decayedChurn s.params s.churn }) := by
  unfold decayEnded
  dsimp only
  split
  · rename_i hruns
    split
    · rename_i hrelease
      exact .inr (.inl ⟨hruns, hrelease.1, hrelease.2, rfl⟩)
    · rename_i hstays
      exact .inr (.inr ⟨hruns, fun hhold => by simpa [hhold] using hstays, rfl⟩)
  · rename_i hstopped
    exact .inl ⟨by simpa using hstopped, rfl⟩

/-! ### The invariant -/

/-- A state whose churn and parameters are those of an operating state that meets the invariant meets it. -/
theorem churnSound_of_eq {s t : State} (hop : s.role.operating = true) (hparams : t.params = s.params)
    (hchurn : t.churn = s.churn) (h : s.churnSound) : t.churnSound := by
  intro _
  rw [hparams, hchurn]
  exact h hop

theorem churnSound_readsLabels : ReadsLabels State.churnSound :=
  fun _ _ hop h => churnSound_of_eq hop h.params h.churn

/-- A churn event keeps the count within the depth and HOLD with the threshold (R21, R27). -/
theorem churnSound_churnEvent {s : State} (hop : s.role.operating = true) (h : s.churnSound) : (churnEvent s).churnSound := by
  obtain ⟨-, heq⟩ | ⟨-, c, hc, heq⟩ := churnEvent_cases s
  · rw [heq]; exact h
  · obtain ⟨hthreshold, hpos, hcount, hdecay, hhold⟩ := h hop
    rw [heq]
    intro _
    dsimp only
    refine ⟨hthreshold, hpos, by omega, ⟨fun _ => by omega, fun _ => rfl⟩, ?_⟩
    simp only [Bool.or_eq_true, decide_eq_true_eq, hhold]
    omega

/-- The release of HOLD keeps the invariant when the count lies below the threshold (R29). -/
theorem churnSound_releaseHold {s : State} (hbelow : s.churn.count < s.params.churnThreshold)
    (hrest : 1 ≤ s.params.churnThreshold ∧ s.params.churnThreshold ≤ s.params.churnDepth
      ∧ (s.churn.decay.isSome = true ↔ 0 < s.churn.count)) : (releaseHold s).churnSound := by
  intro _
  rw [releaseHold_churn, releaseHold_params]
  refine ⟨hrest.2.1, hrest.1, by dsimp only; omega, hrest.2.2, ?_⟩
  simp only [Bool.false_eq_true, false_iff]
  omega

/-- A decay keeps the invariant (R24). -/
theorem churnSound_decayEnded {s : State} (hop : s.role.operating = true) (h : s.churnSound) : (decayEnded s).churnSound := by
  obtain ⟨hthreshold, hpos, hcount, hdecay, hhold⟩ := h hop
  have hdecayed : ((decayedChurn s.params s.churn).decay.isSome = true ↔ 0 < s.churn.count - 1) := by
    simp only [decayedChurn]
    split <;> simp_all
  obtain ⟨-, heq⟩ | ⟨-, -, hbelow, heq⟩ | ⟨-, hstays, heq⟩ := decayEnded_cases s
  · rw [heq]; exact h
  · rw [heq]
    exact churnSound_releaseHold hbelow ⟨hpos, hthreshold, hdecayed⟩
  · rw [heq]
    intro _
    refine ⟨hthreshold, hpos, by simp only [decayedChurn]; omega, hdecayed, ?_⟩
    simp only [decayedChurn, hhold] at hstays ⊢
    omega

/-- A churn event handed by a settle expiry keeps the invariant, with or without a decay before it (R25, R30). -/
theorem churnSound_handChurnEvent {s : State} (hop : s.role.operating = true) (h : s.churnSound) :
    (handChurnEvent s).churnSound := by
  obtain heq | ⟨-, -, heq | heq⟩ := handChurnEvent_cases s
  · rw [heq]; exact churnSound_churnEvent hop h
  · rw [heq]; exact churnSound_churnEvent (s := { s with ties := s.ties + 1 }) hop h
  · rw [heq]
    have hdecay := churnSound_decayEnded (s := { s with ties := s.ties + 1 }) hop h
    exact churnSound_churnEvent (labelsKeep_operating.decayEnded _ hop hop) hdecay

theorem churnSound_edgesKeep : EdgesKeep State.churnSound where
  rawChanged d level s hop hs := by
    unfold rawChanged
    dsimp only
    split
    · exact churnSound_of_eq (s := s) hop rfl rfl hs
    · exact hs
  settleEnded d s hop hs := by
    by_cases howned : (edgeAt s d).kind = .trackOwned ∧ (edgeAt s d).settle.isSome = true
    · rw [settleEnded_of_trackOwned howned.1 howned.2]
      generalize hset : setEdge d (settledEdge s.churn.hold (edgeAt s d)) s = settled
      have hop1 : settled.role.operating = true := by rw [← hset]; exact hop
      have hsettled : settled.churnSound := by rw [← hset]; exact hs
      have hevent := churnSound_handChurnEvent hop1 hsettled
      split
      · exact hevent
      · exact churnSound_of_eq (operating_handChurnEvent hop1) (by simp) (by simp) hevent
    · rw [settleEnded_of_not howned]; exact hs
  burstStopped s hop hs := hs
  decayEnded s hop hs := churnSound_decayEnded hop hs
  silenceEnded d s hop hs := by
    unfold silenceEnded
    dsimp only
    split
    · exact churnSound_of_eq (s := s) hop (by simp) (by simp) hs
    · exact hs
  heard d s hop hs := churnSound_of_eq hop (by simp) (by simp) hs
  takeMark d a s hop hs := churnSound_of_eq hop (by simp) (by simp) hs

/-- A loaded record has its churn threshold within the churn depth (R173). -/
theorem loadParams_churn (bytes : List Byte) : (loadParams bytes).churnThreshold ≤ (loadParams bytes).churnDepth
    ∧ 1 ≤ (loadParams bytes).churnThreshold := by
  simp only [loadParams, byteField, clampNat]
  omega

theorem churnSound_blindToPort : BlindToPort State.churnSound where
  port _ _ _ hs := hs
  outputs _ _ _ _ hs := hs
  rest role _ _ _ _ _ hrest hop := absurd (hrest.symm.trans hop) (by decide)
  start inputs s := by
    rw [startOperating_eq]
    intro _
    have hload := loadParams_churn s.store.bytes
    refine ⟨hload.1, hload.2, Nat.zero_le _, by simp [startState, State.reset, wiped], ?_⟩
    have hpositive : ¬ (loadParams s.store.bytes).churnThreshold ≤ 0 := by omega
    simpa [startState, State.reset, wiped] using hpositive

/-- One bit time leaves count and HOLD and keeps the decay timer running (2.1). -/
theorem churnSound_advance {s : State} (h : s.churnSound) : (advance s).churnSound := by
  intro hop
  obtain ⟨hthreshold, hpos, hcount, hdecay, hhold⟩ := h hop
  refine ⟨hthreshold, hpos, hcount, ?_, hhold⟩
  have htick : (advance s).churn.decay.isSome = s.churn.decay.isSome := by
    simp only [advance, tickTimer]
    split <;> simp_all
  rw [htick]
  exact hdecay

/-- Settles O10: a churn event and a decay keep the count and its timer, and HOLD moves with the threshold. -/
theorem stepKeepsChurnSound : Obligations.StepKeepsChurnSound := fun _ _ hs h =>
  step_keeps (P := State.churnSound) (fun _ _ _ hs => hs) (fun _ => churnSound_advance)
    (exec_keeps churnSound_edgesKeep churnSound_readsLabels.blocksKeep churnSound_readsLabels.lineKeeps
      churnSound_blindToPort.storeKeeps) hs h

end Sys2Proof.Machine
end

section
/-! PROOF. The entries of the four directions: what each operation of the Edge Monitor writes into one entry, and a property of
entries that all these writes keep. -/

namespace Sys2Proof.Machine

/-- The entry with its effective state formed anew (R15, R16). -/
def reevaluated (e : Edge) : Edge := { e with effective := effectiveNow e }

/-- The entry of a neighbour that has just been heard (R8). -/
def heardEdge (e : Edge) : Edge := { e with status := .active, silence := some Config.silenceLimit }

/-- The entry of a neighbour that has fallen silent (R9). -/
def lostEdge (e : Edge) : Edge := { e with status := .lost, silence := none }

/-! ### One entry after one operation -/

/-- An entry after an entry was written: the written one in its direction, the old one in any other. -/
theorem edgeAt_setEdge (d d' : Dir) (e : Edge) (s : State) :
    edgeAt (setEdge d e s) d' = if d' = d then e else edgeAt s d' := by
  by_cases h : d' = d
  · subst h; simp
  · simp [h]

/-- A re-evaluation forms the effective state of its direction anew and leaves every other entry. -/
theorem edgeAt_reevaluate (d d' : Dir) (s : State) :
    edgeAt (reevaluate d s) d' = if d' = d then reevaluated (edgeAt s d) else edgeAt s d' := by
  have hedges : (reevaluate d s).edges = (setEdge d (reevaluated (edgeAt s d)) s).edges := reevaluate_edges d s
  rw [edgeAt_congr hedges, edgeAt_setEdge]

/-- A MARK's arrival leaves every entry. -/
theorem edgeAt_markArrival (d d' : Dir) (a : Advert) (s : State) : edgeAt (markArrival d a s) d' = edgeAt s d' :=
  edgeAt_congr (by simp) d'

/-- A decay leaves every entry, or releases HOLD and with it every entry, which needs HOLD set before. -/
theorem edgeAt_decayEnded (d : Dir) (s : State) : edgeAt (decayEnded s) d = edgeAt s d
    ∨ s.churn.hold = true ∧ edgeAt (decayEnded s) d = releasedEdge (edgeAt s d) := by
  obtain ⟨-, heq⟩ | ⟨-, hhold, -, heq⟩ | ⟨-, -, heq⟩ := decayEnded_cases s
  · exact .inl (by rw [heq])
  · exact .inr ⟨hhold, by rw [heq, edgeAt_releaseHold]; rfl⟩
  · exact .inl (by rw [heq]; rfl)

/-- A churn event handed on leaves every entry, or releases it after a decay under HOLD. -/
theorem edgeAt_handChurnEvent (d : Dir) (s : State) : edgeAt (handChurnEvent s) d = edgeAt s d
    ∨ s.churn.hold = true ∧ edgeAt (handChurnEvent s) d = releasedEdge (edgeAt s d) := by
  have hevent : ∀ t, edgeAt (churnEvent t) d = edgeAt t d := fun t => edgeAt_congr (by simp) d
  obtain heq | ⟨-, -, heq | heq⟩ := handChurnEvent_cases s
  · exact .inl (by rw [heq, hevent])
  · exact .inl (by rw [heq, hevent]; rfl)
  · rw [heq, hevent]
    exact edgeAt_decayEnded d { s with ties := s.ties + 1 }

/-- A silence expiry makes the entry of an ACTIVE neighbour LOST and forms its effective state anew. -/
theorem silenceEnded_cases (d : Dir) (s : State) :
    silenceEnded d s = s
    ∨ (edgeAt s d).status = .active ∧ silenceEnded d s = reevaluate d (setEdge d (lostEdge (edgeAt s d)) s) := by
  unfold silenceEnded
  dsimp only
  split
  · rename_i h; exact .inr ⟨h.1, rfl⟩
  · exact .inl rfl

/-- A stored MARK's mirror view told on leaves every other entry. -/
theorem edgeAt_mirrorTold {d d' : Dir} (a : Advert) (s : State) (h : d' ≠ d) : edgeAt (mirrorTold d a s) d' = edgeAt s d' := by
  unfold mirrorTold
  split
  · simp [h]
  · rw [edgeAt_congr (queueMark_frame _).2.2.1]
    simp [h]

/-- A neighbour's MARK stores its advert in its direction's entry, formed anew, and leaves every other. -/
theorem edgeAt_takeMark (d d' : Dir) (a : Advert) (s : State) :
    edgeAt (takeMark d a s) d' = if d' = d then reevaluated (storedEdge a (edgeAt s d)) else edgeAt s d' := by
  rw [takeMark_eq_mirrorTold, edgeAt_markArrival, edgeAt_reevaluate, edgeAt_setEdge_same, edgeAt_setEdge]
  split
  · rfl
  · rename_i h
    exact edgeAt_mirrorTold a s h

/-! ### Properties of entries -/

/-- `R` is kept by every write of the Edge Monitor into an entry. -/
structure EntryKeeps (R : Edge → Prop) : Prop where
  raw : ∀ e level n, e.kind = .trackOwned → R e →
    R { e with raw := level, settle := if trackOf level = e.sensed then none else some n }
  settled : ∀ hold e, e.kind = .trackOwned → (settledEdge hold e).applied = e.applied → R e → R (settledEdge hold e)
  settledAnew : ∀ hold e, e.kind = .trackOwned → R e → R (reevaluated (settledEdge hold e))
  released : ∀ e, R e → R (releasedEdge e)
  heard : ∀ e, e.status = .active → R e → R (heardEdge e)
  heardAnew : ∀ e, R e → R (reevaluated (heardEdge e))
  lost : ∀ e, R e → R (reevaluated (lostEdge e))
  stored : ∀ a e, R e → R (reevaluated (storedEdge a e))

/-- Outside HOLD a settled entry has its sensed state applied, so that a release leaves it. -/
theorem releasedEdge_settledEdge_false (e : Edge) : releasedEdge (settledEdge false e) = settledEdge false e :=
  if_neg fun h => h.2 rfl

/-- A settle expiry leaves its direction's entry settled, and formed anew where its applied state has changed. -/
theorem EntryKeeps.edgeAt_settleEnded {R : Edge → Prop} (hR : EntryKeeps R) (d : Dir) {s : State}
    (hkind : (edgeAt s d).kind = .trackOwned) (hruns : (edgeAt s d).settle.isSome = true) (h : R (edgeAt s d)) :
    R (edgeAt (settleEnded d s) d) := by
  rw [settleEnded_of_trackOwned hkind hruns]
  have hset : edgeAt (setEdge d (settledEdge s.churn.hold (edgeAt s d)) s) d = settledEdge s.churn.hold (edgeAt s d) := by simp
  have hevent := edgeAt_handChurnEvent d (setEdge d (settledEdge s.churn.hold (edgeAt s d)) s)
  rw [hset] at hevent
  split
  · rename_i hsame
    have hsettled := hR.settled s.churn.hold _ hkind hsame h
    obtain heq | ⟨-, heq⟩ := hevent
    · rw [heq]; exact hsettled
    · rw [heq]; exact hR.released _ hsettled
  · rename_i hchanged
    have hhold : s.churn.hold = false := by
      cases hh : s.churn.hold with
      | false => rfl
      | true => exact absurd (by simp [settledEdge, hh]) hchanged
    rw [edgeAt_reevaluate, if_pos rfl, edgeAt_congr (queueMark_frame _).2.2.1]
    obtain heq | ⟨-, heq⟩ := hevent
    · rw [heq]; exact hR.settledAnew _ _ hkind h
    · rw [heq, hhold, releasedEdge_settledEdge_false]; exact hR.settledAnew _ _ hkind h

/-- A settle expiry leaves every other entry, or releases it after a decay. -/
theorem edgeAt_settleEnded_other {d d' : Dir} (h : d' ≠ d) (s : State) :
    edgeAt (settleEnded d s) d' = edgeAt s d' ∨ edgeAt (settleEnded d s) d' = releasedEdge (edgeAt s d') := by
  by_cases howned : (edgeAt s d).kind = .trackOwned ∧ (edgeAt s d).settle.isSome = true
  · rw [settleEnded_of_trackOwned howned.1 howned.2]
    have hevent := edgeAt_handChurnEvent d' (setEdge d (settledEdge s.churn.hold (edgeAt s d)) s)
    rw [edgeAt_setEdge_other _ _ h] at hevent
    split
    · exact hevent.imp id And.right
    · rw [edgeAt_reevaluate, if_neg h, edgeAt_congr (queueMark_frame _).2.2.1]
      exact hevent.imp id And.right
  · exact .inl (by rw [settleEnded_of_not howned])

/-- A property that every write into an entry keeps is kept, for all four directions, by the Edge Monitor and the Churn Monitor. -/
theorem EntryKeeps.edgesKeep {R : Dir → Edge → Prop} (hR : ∀ d, EntryKeeps (R d)) :
    EdgesKeep fun s => ∀ d, R d (edgeAt s d) where
  rawChanged d level s _ hs d' := by
    unfold rawChanged
    dsimp only
    split
    · rename_i h
      rw [edgeAt_setEdge]
      split
      · subst d'; exact (hR d).raw _ _ _ h.1 (hs d)
      · exact hs d'
    · exact hs d'
  settleEnded d s _ hs d' := by
    by_cases hd : d' = d
    · subst hd
      by_cases howned : (edgeAt s d').kind = .trackOwned ∧ (edgeAt s d').settle.isSome = true
      · exact (hR d').edgeAt_settleEnded d' howned.1 howned.2 (hs d')
      · rw [settleEnded_of_not howned]; exact hs d'
    · obtain heq | heq := edgeAt_settleEnded_other hd s
      · rw [heq]; exact hs d'
      · rw [heq]; exact (hR d').released _ (hs d')
  burstStopped _ _ hs d' := hs d'
  decayEnded s _ hs d' := by
    obtain heq | ⟨-, heq⟩ := edgeAt_decayEnded d' s
    · rw [heq]; exact hs d'
    · rw [heq]; exact (hR d').released _ (hs d')
  silenceEnded d s _ hs d' := by
    obtain heq | ⟨-, heq⟩ := silenceEnded_cases d s
    · rw [heq]; exact hs d'
    · rw [heq, edgeAt_reevaluate, edgeAt_setEdge_same, edgeAt_setEdge]
      split
      · subst d'; exact (hR d).lost _ (hs d)
      · exact hs d'
  heard d s _ hs d' := by
    obtain ⟨hactive, heq⟩ | ⟨-, heq⟩ := heard_cases d s
    · rw [heq, edgeAt_setEdge]
      split
      · subst d'; exact (hR d).heard _ hactive (hs d)
      · exact hs d'
    · rw [heq, edgeAt_reevaluate, edgeAt_setEdge_same, edgeAt_setEdge]
      split
      · subst d'; exact (hR d).heardAnew _ (hs d)
      · exact hs d'
  takeMark d a s _ hs d' := by
    rw [edgeAt_takeMark]
    split
    · subst d'; exact (hR d).stored a _ (hs d)
    · exact hs d'

/-- A property of the entries reads the edges alone. -/
theorem readsLabels_edges (R : Dir → Edge → Prop) : ReadsLabels fun s => ∀ d, R d (edgeAt s d) :=
  fun _ _ _ h hs d => by rw [edgeAt_congr h.edges]; exact hs d

/-- A property of the entries that holds of every entry at rest and at start is kept by resets, start, port and fade. -/
theorem blindToPort_edges {R : Edge → Prop} (hrest : R Edge.unused)
    (hstart : ∀ own bytes tracks d, R (startEdge own bytes tracks d)) : BlindToPort fun s => ∀ d, R (edgeAt s d) where
  port _ _ _ hs := hs
  outputs _ _ _ _ hs := hs
  rest _ _ _ _ _ _ _ d := by cases d <;> exact hrest
  start inputs s d := by
    rw [startOperating_eq]
    cases d <;> exact hstart _ _ _ _

/-- One bit time counts both timers of every entry. -/
theorem edgeAt_advance (s : State) (d : Dir) : edgeAt (advance s) d = tickEdge (edgeAt s d) := by
  cases d <;> rfl

end Sys2Proof.Machine
end

section
/-! PROOF. The label and the effective states (R15, R16, R33): the best candidate of an epoch is the self candidate or lies at the
root of another cell, and every write into an entry that R15 reads is followed by a re-evaluation. -/

namespace Sys2Proof.Machine

/-! ### The label -/

/-- The best candidate lies at 0 hops exactly when its root is the own number, and at most at 249 (R33, R37, R38). -/
theorem bestLabel_sound (s : State) (e : Epoch) :
    ((bestLabel s e).hops = 0 ↔ (bestLabel s e).root = s.params.own) ∧ (bestLabel s e).hops ≤ 249 := by
  obtain hself | ⟨d, hd⟩ := isCandidate_bestLabel s e
  · rw [hself]
    exact ⟨⟨fun _ => rfl, fun _ => rfl⟩, Nat.zero_le _⟩
  · obtain ⟨-, hpos, hmax⟩ := candidate_spec hd
    have hnotself : better (selfLabel s e) (bestLabel s e) = false := IsCandidate.not_better_bestLabel (.inl rfl)
    rw [← Bool.not_eq_true, better_iff] at hnotself
    have hroot : (bestLabel s e).root ≠ s.params.own := fun h => hnotself (.inr ⟨h.symm, hpos⟩)
    exact ⟨⟨fun h => by omega, fun h => absurd h hroot⟩, hmax⟩

theorem labelSound_labelsKeep : LabelsKeep State.labelSound where
  edges _ _ _ _ hs := hs
  queueMark _ _ hs := hs
  adoptEpoch epoch s _ _ _ := by
    simp only [adoptEpoch, labelChange_label, labelChange_frame]
    exact bestLabel_sound s epoch

theorem labelSound_readsLabels : ReadsLabels State.labelSound := fun _ _ hop h hs _ => by
  rw [h.label, h.params]
  exact hs hop

theorem labelSound_blindToPort : BlindToPort State.labelSound where
  port _ _ _ hs := hs
  outputs _ _ _ _ hs := hs
  rest _ _ _ _ _ _ hrest hop := absurd (hrest.symm.trans hop) (by decide)
  start inputs s := by
    rw [startOperating_eq]
    exact fun _ => ⟨⟨fun _ => rfl, fun _ => rfl⟩, Nat.zero_le _⟩

/-- Every command keeps the label sound. -/
theorem labelSound_exec {c : Instr} {s t : State} (hs : s.labelSound) (h : exec c s = .next t) : t.labelSound :=
  exec_keeps labelSound_labelsKeep.edgesKeep labelSound_readsLabels.blocksKeep labelSound_readsLabels.lineKeeps
    labelSound_blindToPort.storeKeeps hs h

/-! ### The effective states -/

/-- The entry's effective state is the one R15 gives. -/
def EffectiveEntry (e : Edge) : Prop := effectiveNow e = e.effective

theorem effectiveSound_iff (s : State) : s.effectiveSound ↔ ∀ d, EffectiveEntry (edgeAt s d) := by
  constructor
  · rintro ⟨hn, he, hs, hw⟩ d
    cases d
    · exact hn
    · exact he
    · exact hs
    · exact hw
  · exact fun h => ⟨h .north, h .east, h .south, h .west⟩

/-- An entry formed anew has the effective state R15 gives. -/
theorem effectiveEntry_reevaluated (e : Edge) : EffectiveEntry (reevaluated e) := rfl

theorem effectiveEntry_keeps : EntryKeeps EffectiveEntry where
  raw _ _ _ _ h := h
  settled hold e _ hsame h :=
    (effectiveNow_congr (e := settledEdge hold e) (e' := e) rfl rfl hsame rfl rfl).trans h
  settledAnew _ _ _ _ := effectiveEntry_reevaluated _
  released e h := by
    unfold releasedEdge
    split
    · exact rfl
    · exact h
  heard e hactive h := (effectiveNow_congr (e := heardEdge e) (e' := e) hactive.symm rfl rfl rfl rfl).trans h
  heardAnew _ _ := effectiveEntry_reevaluated _
  lost _ _ := effectiveEntry_reevaluated _
  stored _ _ _ := effectiveEntry_reevaluated _

/-- An entry whose neighbour was never heard is CLOSED. -/
theorem effectiveEntry_start (own : Station) (bytes : List Byte) (tracks : PerDir Level) (d : Dir) :
    EffectiveEntry (startEdge own bytes tracks d) := by
  obtain ⟨kind, neighbour, raw, heq⟩ := startEdge_cases own bytes tracks d
  rw [heq]
  simp [EffectiveEntry, effectiveNow, Edge.unused]

/-- Every command keeps the effective states sound. -/
theorem effectiveEntries_exec {c : Instr} {s t : State} (hs : ∀ d, EffectiveEntry (edgeAt s d)) (h : exec c s = .next t) :
    ∀ d, EffectiveEntry (edgeAt t d) :=
  exec_keeps (P := fun s => ∀ d, EffectiveEntry (edgeAt s d)) (EntryKeeps.edgesKeep fun _ => effectiveEntry_keeps)
    (readsLabels_edges fun _ => EffectiveEntry).blocksKeep (readsLabels_edges fun _ => EffectiveEntry).lineKeeps
    (blindToPort_edges (R := EffectiveEntry) rfl effectiveEntry_start).storeKeeps hs h

/-- Settles O9: a new label is a best candidate, and a written entry is re-evaluated. -/
theorem stepKeepsLabelAndEffectiveStates : Obligations.StepKeepsLabelAndEffectiveStates := by
  intro s t hlabel heffective h
  have htime : ∀ u : State, (∀ d, EffectiveEntry (edgeAt u d)) → ∀ d, EffectiveEntry (edgeAt (advance u) d) :=
    fun u hu d => by rw [edgeAt_advance]; exact hu d
  refine ⟨step_keeps (P := State.labelSound) (fun _ _ _ hs => hs) (fun _ hs => hs) labelSound_exec hlabel h, ?_⟩
  rw [effectiveSound_iff] at heffective ⊢
  exact step_keeps (P := fun s => ∀ d, EffectiveEntry (edgeAt s d)) (fun _ _ _ hs => hs) htime effectiveEntries_exec
    heffective h

end Sys2Proof.Machine
end

section
/-! PROOF. What Cell Control, the Zone Head and the Gateway Filter do, operation by operation, as whole next states: the rules that
the invariants of cell and zone record, and the statements about single commands, are read off from. -/

namespace Sys2Proof.Machine

/-! ### Light targets and stored ORDERs -/

/-- A light with a target set: a new target starts its first step anew, the target it has leaves a running fade (R116, log 19). -/
def aimed (t : Int) (l : Light) : Light := if t = l.target then l else { l with target := t, phase := 0 }

@[simp] theorem aimed_target (t : Int) (l : Light) : (aimed t l).target = t := by
  unfold aimed
  split
  · rename_i h; exact h.symm
  · rfl

@[simp] theorem aimed_output (t : Int) (l : Light) : (aimed t l).output = l.output := by
  unfold aimed
  split <;> rfl

theorem setTarget_eq (t : Int) (s : State) : setTarget t s = { s with light := aimed t s.light } := by
  unfold setTarget aimed
  split <;> rfl

/-- The cell that a stored CONTROL ORDER leaves (R120, R121, R129). -/
def followCell (p : Params) (o : Order) (c : Cell) : Cell :=
  { c with
    lastOrder := some o
    tempPref := o.setpoint
    lightPref := o.lightPref
    lastDemand := o.demand
    damper := damperFor p o.demand
    reheat := reheatFor o.demand }

/-- The light target of a stored CONTROL ORDER (R112). -/
def followTarget (o : Order) (c : Cell) : Int :=
  if o.occupancy = .vacant ∧ c.occupied = true then o.lightPref else o.lightTarget

/-- A stored CONTROL ORDER sets cell and light target, and nothing else (R121). -/
theorem storeOrder_control {o : Order} (s : State) (h : o.kind = .control) : storeOrder o s =
    { s with cell := followCell s.params o s.cell, light := aimed (followTarget o s.cell) s.light } := by
  let t : State := { s with cell := followCell s.params o s.cell }
  have hfollow : storeOrder o s = setTarget (orderTarget o t) t := by
    simp only [storeOrder, h]
    rfl
  have htarget : orderTarget o t = followTarget o s.cell := by
    cases hocc : o.occupancy <;> cases hcell : s.cell.occupied <;> simp [orderTarget, followTarget, hocc, hcell, t, followCell]
  rw [hfollow, htarget, setTarget_eq]

/-- A head's CONTROL ORDER sets record, ORDER slot, cell and light target, and nothing else (R72, R123). -/
theorem queueOrder_control_eq (z : Zone) (s : State) : queueOrder .control z s = { s with
    zone := some z
    slots := { s.slots with order := handSlot (zoneOrder s.params.own .control z) s.slots.order }
    cell := followCell s.params (zoneOrder s.params.own .control z) s.cell
    light := aimed (followTarget (zoneOrder s.params.own .control z) s.cell) s.light } := by
  rw [queueOrder, storeOrder_control _ rfl]

/-! ### Content handed to slots -/

/-- Every slot of `b` is that of `a`, or has had content handed to it (R155, R157). -/
structure SlotsHanded (a b : Slots) : Prop where
  order : b.order = a.order ∨ ∃ x, b.order = handSlot x a.order
  mark : b.mark = a.mark ∨ ∃ x, b.mark = handSlot x a.mark
  nudge : b.nudge = a.nudge ∨ ∃ x, b.nudge = handSlot x a.nudge
  tally : b.tally = a.tally ∨ ∃ x, b.tally = handSlot x a.tally

namespace SlotsHanded

theorem refl (a : Slots) : SlotsHanded a a := ⟨.inl rfl, .inl rfl, .inl rfl, .inl rfl⟩

theorem handOrder (a : Slots) (x : Order) : SlotsHanded a { a with order := handSlot x a.order } :=
  ⟨.inr ⟨x, rfl⟩, .inl rfl, .inl rfl, .inl rfl⟩

theorem handMark (a : Slots) (x : Mark) : SlotsHanded a { a with mark := handSlot x a.mark } :=
  ⟨.inl rfl, .inr ⟨x, rfl⟩, .inl rfl, .inl rfl⟩

theorem handNudge (a : Slots) (x : Nudge) : SlotsHanded a { a with nudge := handSlot x a.nudge } :=
  ⟨.inl rfl, .inl rfl, .inr ⟨x, rfl⟩, .inl rfl⟩

theorem handTally (a : Slots) (x : Tally) : SlotsHanded a { a with tally := handSlot x a.tally } :=
  ⟨.inl rfl, .inl rfl, .inl rfl, .inr ⟨x, rfl⟩⟩

/-- Of two contents handed to one slot the later one stands. -/
theorem slot_trans {α : Type} {a b c : Slot α} (hab : b = a ∨ ∃ x, b = handSlot x a) (hbc : c = b ∨ ∃ x, c = handSlot x b) :
    c = a ∨ ∃ x, c = handSlot x a := by
  obtain rfl | ⟨y, rfl⟩ := hbc
  · exact hab
  · obtain rfl | ⟨x, rfl⟩ := hab
    · exact .inr ⟨y, rfl⟩
    · exact .inr ⟨y, handSlot_handSlot x y a⟩

theorem trans {a b c : Slots} (hab : SlotsHanded a b) (hbc : SlotsHanded b c) : SlotsHanded a c :=
  ⟨slot_trans hab.order hbc.order, slot_trans hab.mark hbc.mark, slot_trans hab.nudge hbc.nudge, slot_trans hab.tally hbc.tally⟩

theorem offerNudge (s : State) : SlotsHanded s.slots (offerNudge s).slots := by
  obtain ⟨-, heq⟩ | ⟨-, -, heq⟩ := offerNudge_cases s
  · rw [heq]; exact refl _
  · rw [heq]; exact handNudge _ _

theorem flightEnd (s : State) : SlotsHanded s.slots (flightEnd s).slots := by
  obtain ⟨-, heq⟩ | ⟨d, -, ⟨-, heq⟩ | ⟨-, heq⟩ | ⟨-, -, -, heq⟩⟩ := flightEnd_cases s
  · rw [heq]; exact refl _
  · rw [heq]
    exact offerNudge { s with cell := { s.cell with nudge := remainder s.cell d, outstanding := none, spent := false } }
  · rw [heq]; exact refl _
  · rw [heq]; exact refl _

end SlotsHanded

/-! ### The operations of a head on its record -/

/-- The own entry of a roll set occupied and marked (R76). -/
def markOwn (own : Station) (roll : List Entry) : List Entry :=
  roll.map fun e => if e.cell = own then { e with occupied := true, marked := true } else e

/-- What a head writes into its record without an ORDER: an adjust or a preset while it gathers, an entry of the roll, the
residency met (R62 to R65, R68, R76, R108). -/
inductive RecordWrite (s : State) (z : Zone) : Zone → Prop
  | adjust (d : Deltas) : s.role = .headGather → RecordWrite s z { z with adjust := clampDeltas (addDeltas z.adjust d) }
  | preset (p : Preset) : s.role = .headGather →
      RecordWrite s z { z with preset := ⟨presetField p.filtered.setpoint, presetField p.filtered.lightPref⟩ }
  | gathered (source : Station) (t : Tally) (roll : List Entry) : s.role = .headGather →
      rollTake 249 (tallyEntry source t) z.roll = some roll → RecordWrite s z { z with roll := roll }
  | entered (source : Station) (t : Tally) (roll : List Entry) : s.role = .headRun →
      rollTake 250 (tallyEntry source t) z.roll = some roll → RecordWrite s z { z with roll := roll }
  | ownMarked : s.role = .headRun → RecordWrite s z { z with roll := markOwn s.params.own z.roll }
  | residencyMet (n : Nat) : z.residency = .counting n → RecordWrite s z { z with residency := .met }

/-- What a head in HEAD_RUN writes into its record with a CONTROL ORDER: a zone that turns OCCUPIED with a written entry, a changed
setpoint or light preference, a closed round (R70, R73 to R75, R109). -/
inductive RecordOrder (s : State) (z : Zone) : Zone → Prop
  | occupied (z' : Zone) : s.role = .headRun → RecordWrite s z z' → z'.occupancy = .vacant →
      RecordOrder s z (turnOccupied s.params s.floorMode z')
  | moved (d : Deltas) : s.role = .headRun → RecordOrder s z { z with
      setpoint := clampSetpoint (z.setpoint + d.temp)
      lightPref := clampLightPref (z.lightPref + d.light)
      lightTarget := lightFor s.params z.occupancy s.floorMode (clampLightPref (z.lightPref + d.light)) }
  | preset (p : Preset) : s.role = .headRun → RecordOrder s z { z with
      setpoint := (presetField p.filtered.setpoint).getD z.setpoint
      lightPref := (presetField p.filtered.lightPref).getD z.lightPref
      lightTarget := lightFor s.params z.occupancy s.floorMode ((presetField p.filtered.lightPref).getD z.lightPref) }
  | closed : s.role = .headRun → RecordOrder s z (closedZone s z)

/-- What a head does with an event for its record: nothing, a write, or a write with a CONTROL ORDER. -/
inductive HeadStep (s : State) : State → Prop
  | rest : HeadStep s s
  | written (z z' : Zone) : s.zone = some z → RecordWrite s z z' → HeadStep s { s with zone := some z' }
  | ordered (z z' : Zone) : s.zone = some z → RecordOrder s z z' → HeadStep s (queueOrder .control z' s)

namespace HeadStep

/-- An entry written in HEAD_RUN is followed by the evaluation of the zone (R65, R109). -/
theorem evaluateWritten {s : State} {z z' : Zone} (b : Bool) (hz : s.zone = some z) (hrole : s.role = .headRun)
    (h : RecordWrite s z z') : HeadStep s (evaluateWritten b z' s) := by
  obtain heq | ⟨hvacant, heq⟩ := evaluateWritten_cases b z' s
  · rw [heq]; exact .written z z' hz h
  · rw [heq]; exact .ordered z _ hz (.occupied z' hrole h hvacant)

theorem headTally (source : Station) (t : Tally) (s : State) : HeadStep s (headTally source t s) := by
  obtain heq | ⟨z, roll, hz, ⟨hrole, htake, heq⟩ | ⟨hrole, htake, heq⟩⟩ := headTally_cases source t s
  · rw [heq]; exact .rest
  · rw [heq]; exact .written z _ hz (.gathered source t roll hrole htake)
  · rw [heq]; exact evaluateWritten _ hz hrole (.entered source t roll hrole htake)

theorem headDeltas {s : State} {z : Zone} (d : Deltas) (hz : s.zone = some z) : HeadStep s (headDeltas d z s) := by
  unfold Machine.headDeltas
  split
  case h_1 hrole => exact .written z _ hz (.adjust d hrole)
  case h_2 hrole =>
    obtain heq | heq := changeZone_cases (clampSetpoint (z.setpoint + d.temp)) (clampLightPref (z.lightPref + d.light)) z s
    · rw [heq]; exact .rest
    · rw [heq]; exact .ordered z _ hz (.moved d hrole)
  all_goals exact .rest

/-- A record is taken for an addressee and an epoch only when it is the cell's own. -/
theorem zoneTakes_some {addressee : Station} {epoch : Epoch} {s : State} {z : Zone} (h : zoneTakes addressee epoch s = some z) :
    s.zone = some z := by
  unfold zoneTakes at h
  split at h
  · cases h
  · split at h
    · rename_i hz _; rw [hz, h]
    · cases h

theorem headNudge (n : Nudge) (s : State) : HeadStep s (headNudge n s) := by
  unfold Machine.headNudge
  split
  · exact .rest
  · rename_i z hz
    exact headDeltas _ (zoneTakes_some hz)

theorem filterPreset (source : Station) (p : Preset) (s : State) : HeadStep s (filterPreset source p s) := by
  unfold Machine.filterPreset headPreset
  split
  · split
    · exact .rest
    · rename_i z hz
      split
      case h_1 hrole => exact .written z _ (zoneTakes_some hz) (.preset p hrole)
      case h_2 hrole =>
        obtain heq | heq := changeZone_cases ((presetField p.filtered.setpoint).getD z.setpoint)
          ((presetField p.filtered.lightPref).getD z.lightPref) z s
        · rw [heq]; exact .rest
        · rw [heq]; exact .ordered z _ (zoneTakes_some hz) (.preset p hrole)
      all_goals exact .rest
  · exact .rest

theorem headOnset {s : State} (hrole : s.role = .headRun) : HeadStep s (headOnset s) := by
  unfold Machine.headOnset
  split
  · exact .rest
  · rename_i z hz
    exact evaluateWritten true hz hrole (.ownMarked hrole)

theorem roundClosed (s : State) : HeadStep s (roundClosed s) := by
  unfold Machine.roundClosed
  split
  · exact .rest
  · rename_i z hz
    split
    · rename_i h; exact .ordered z _ hz (.closed h.1)
    · exact .rest

theorem residencyReached (s : State) : HeadStep s (residencyReached s) := by
  unfold Machine.residencyReached
  split
  · exact .rest
  · rename_i z hz
    split
    · rename_i n hn; exact .written z _ hz (.residencyMet n hn)
    · exact .rest
    · exact .rest

end HeadStep

/-! ### The quiet timer, the gather timer, a received ORDER and the local timers -/

/-- The entry to HEAD_GATHER as a whole next state (R59, R60, R123, R135). -/
theorem enterHeadGather_eq (s : State) : enterHeadGather s = { s with
    role := .headGather
    quiet := none
    zone := some (newZone s)
    slots := { s.slots with order := handSlot (zoneOrder s.params.own .call (newZone s)) s.slots.order }
    cell := { s.cell with
      orderTimer := none
      nudge := ⟨0, 0⟩
      spent := s.cell.outstanding.isSome
      lastOrder := some (zoneOrder s.params.own .call (newZone s)) } } := rfl

/-- The quiet timer's expiry makes a head or a waiting cell of a SETTLING one (R48). -/
theorem quietEnded_cases (s : State) :
    quietEnded s = s
    ∨ (s.role = .settling ∧ s.label.root = s.params.own ∧ quietEnded s = enterHeadGather s)
    ∨ (s.role = .settling ∧ s.label.root ≠ s.params.own ∧ quietEnded s = enterAwait s) := by
  unfold quietEnded
  split
  · rename_i h
    split
    · rename_i hroot; exact .inr (.inl ⟨h.1, hroot, rfl⟩)
    · rename_i hroot; exact .inr (.inr ⟨h.1, hroot, rfl⟩)
  · exact .inl rfl

/-- The gather timer's expiry bears the zone of a HEAD_GATHER cell (R67). -/
theorem gatherEnded_cases (s : State) :
    gatherEnded s = s
    ∨ ∃ z, s.zone = some z ∧ s.role = .headGather
        ∧ gatherEnded s = queueOrder .control (bornZone s z) { s with role := .headRun } := by
  unfold gatherEnded
  split
  · exact .inl rfl
  · rename_i z hz
    split
    · rename_i h; exact .inr ⟨z, hz, h.1, rfl⟩
    · exact .inl rfl

/-- An ORDER that matches in a role that accepts ORDERs is accepted, and any other ignored (R119). -/
theorem takeOrder_cases (o : Order) (s : State) :
    takeOrder o s = s
    ∨ (s.role.acceptsOrders = true ∧ o.epoch = s.label.epoch ∧ o.source = s.label.root ∧ takeOrder o s = acceptOrder o s) := by
  unfold takeOrder
  split
  · rename_i h; exact .inr ⟨h.1, h.2.1, h.2.2, rfl⟩
  · exact .inl rfl

/-- The order timer's expiry makes an ORPHAN of an AWAIT or MEMBER cell (R126). -/
theorem orderTimedOut_cases (s : State) :
    orderTimedOut s = s ∨ ((s.role = .await ∨ s.role = .member) ∧ orderTimedOut s = enterOrphan s) := by
  unfold orderTimedOut
  split
  · rename_i h; exact .inr ⟨h.1, rfl⟩
  · exact .inl rfl

/-- The cell that a local round leaves (R98). -/
def localRoundCell (s : State) : Cell :=
  let prop := proportional s.params (localError s)
  let i := integratorNext prop s.cell.localIntegrator (integralIncrement s.params (localError s))
  { s.cell with
    localIntegrator := i
    lastDemand := demandOf prop i
    damper := damperFor s.params (demandOf prop i)
    reheat := reheatFor (demandOf prop i)
    localRound := some (seconds s.params.control) }

/-- The local round timer's expiry computes an ORPHAN or MUTE cell on its own (R98). -/
theorem localRoundEnded_cases (s : State) :
    localRoundEnded s = s ∨ (s.role.isLocal = true ∧ localRoundEnded s = { s with cell := localRoundCell s }) := by
  unfold localRoundEnded
  split
  · rename_i h; exact .inr ⟨h.1, rfl⟩
  · exact .inl rfl

/-- The answer to an ORDER writes the last answered round and the TALLY slot at most (R124, R125). -/
theorem answerOrder_cases (o : Order) (s : State) : ∃ slots answered, SlotsHanded s.slots slots
    ∧ answerOrder o s = { s with slots := slots, cell := { s.cell with lastAnswered := answered } } := by
  unfold answerOrder
  split
  · exact ⟨s.slots, s.cell.lastAnswered, .refl _, rfl⟩
  · exact ⟨_, _, .handTally _ _, rfl⟩

/-- The cell that a stored ORDER leaves (R120, R121, R123). -/
def storedCell (p : Params) (o : Order) (c : Cell) : Cell :=
  match o.kind with
  | .call => { c with lastOrder := some o }
  | .control => followCell p o c

/-- A stored ORDER sets the cell, and the light target at most (R112, R121, R123). -/
theorem storeOrder_cases (o : Order) (s : State) : ∃ light, storeOrder o s = { s with
      cell := storedCell s.params o s.cell, light := light }
    ∧ (light = s.light ∨ light = aimed (followTarget o s.cell) s.light) := by
  cases hkind : o.kind with
  | call => exact ⟨s.light, by rw [storeOrder_call s hkind, storedCell, hkind], .inl rfl⟩
  | control => exact ⟨_, by rw [storeOrder_control s hkind, storedCell, hkind], .inr rfl⟩

/-- A cell that has accepted an ORDER, but for the NUDGE it may hand on at its entry to MEMBER (R120). -/
theorem acceptOrder_cases (o : Order) (s : State) : ∃ slots light answered, SlotsHanded s.slots slots
    ∧ (light = s.light ∨ light = aimed (followTarget o.clamped s.cell) s.light)
    ∧ (let taken := { storedCell s.params o.clamped s.cell with
          lastAnswered := answered, orderTimer := some (3 * seconds s.params.control) }
      (s.role = .member ∧ acceptOrder o s = { s with slots := slots, light := light, cell := taken })
      ∨ (s.role ≠ .member ∧ acceptOrder o s = offerNudge { s with
          slots := slots, light := light, role := .member, quiet := none, cell := { taken with localRound := none } })) := by
  obtain ⟨slots, answered, hslots, hanswer⟩ := answerOrder_cases o s
  obtain ⟨light, hstore, hlight⟩ := storeOrder_cases o.clamped (startOrderTimer (answerOrder o s))
  have hcell : storedCell s.params o.clamped { s.cell with
        lastAnswered := answered, orderTimer := some (3 * seconds s.params.control) }
      = { storedCell s.params o.clamped s.cell with
        lastAnswered := answered, orderTimer := some (3 * seconds s.params.control) } := by
    unfold storedCell
    cases o.clamped.kind <;> rfl
  rw [hanswer] at hstore hlight
  simp only [startOrderTimer] at hstore hlight
  rw [hcell] at hstore
  refine ⟨slots, light, answered, hslots, hlight, ?_⟩
  dsimp only
  unfold acceptOrder
  rw [hanswer]
  dsimp only [startOrderTimer]
  rw [hstore]
  by_cases hrole : s.role = .member
  · rw [if_pos hrole]
    exact .inl ⟨hrole, rfl⟩
  · rw [if_neg hrole]
    exact .inr ⟨hrole, rfl⟩

/-! ### The contact, the keys and the floor mode -/

/-- The cell with its contact asserted (R103). -/
def occupiedCell (c : Cell) : Cell := { c with contact := true, occupied := true, hold := .held }

/-- The state with the contact asserted. -/
def occupiedState (s : State) : State := { s with cell := occupiedCell s.cell }

/-- The fast path sets the light target at most, to the light preference (R113). -/
theorem fastPath_cases (s : State) : fastPath s = s ∨ fastPath s = setTarget s.cell.lightPref s := by
  unfold fastPath
  split
  · exact .inl rfl
  · split
    · exact .inr rfl
    · exact .inl rfl

/-- The extra TALLY of an onset writes its slot at most (R105). -/
theorem extraTally_cases (s : State) : ∃ slots, SlotsHanded s.slots slots ∧ extraTally s = { s with slots := slots } := by
  unfold extraTally
  split
  · exact ⟨s.slots, .refl _, rfl⟩
  · exact ⟨_, .handTally _ _, rfl⟩

/-- The hold timer's expiry makes the cell unoccupied, and in local control forms the light target anew (R104, R106). -/
theorem holdEnded_cases (s : State) :
    holdEnded s = s
    ∨ ∃ n, s.cell.hold = .running n ∧
      (let ended := { s with cell := { s.cell with occupied := false, hold := .stopped } }
      holdEnded s = ended ∨ holdEnded s = formLocalTarget ended) := by
  unfold holdEnded
  split
  · rename_i n hn
    refine .inr ⟨n, hn, ?_⟩
    dsimp only
    split
    · exact .inr rfl
    · exact .inl rfl
  · exact .inl rfl
  · exact .inl rfl

/-- A SCHEDULE sets the floor mode at most, and in local control forms the light target anew (R166, R167). -/
theorem filterSchedule_cases (source : Station) (code : BitVec 8) (s : State) :
    filterSchedule source code s = s
    ∨ ∃ mode, filterSchedule source code s = { s with floorMode := mode }
      ∨ filterSchedule source code s = formLocalTarget { s with floorMode := mode } := by
  unfold filterSchedule setFloorMode
  split
  · split
    · exact .inl rfl
    · rename_i mode _
      split
      · exact .inl rfl
      · split
        · exact .inr ⟨mode, .inr rfl⟩
        · exact .inr ⟨mode, .inl rfl⟩
  · exact .inl rfl

/-- A press in local control adjusts the preferences, and forms the light target anew where the light preference has changed
(R136). -/
theorem pressLocal_cases (d : Deltas) (s : State) :
    pressLocal d s = adjustPreferences d s ∨ pressLocal d s = formLocalTarget (adjustPreferences d s) := by
  unfold pressLocal
  dsimp only
  split
  · exact .inl rfl
  · exact .inr rfl

/-- A press is pending in SETTLING, AWAIT and MEMBER, where it is handed on, taken by the record at a head, and applied to the
preferences in local control (R132). -/
theorem keyPressed_cases (key : Key) {s : State} (hop : s.role.operating = true) :
    ((s.role = .settling ∨ s.role = .await) ∧ keyPressed key s = addToNudge (keyStep key) s)
    ∨ (s.role = .member ∧ keyPressed key s = offerNudge (addToNudge (keyStep key) s))
    ∨ (s.role.isHead = true ∧ HeadStep s (keyPressed key s))
    ∨ (s.role.isLocal = true ∧ keyPressed key s = pressLocal (keyStep key) s) := by
  have hhead : HeadStep s (match s.zone with | none => s | some z => headDeltas (keyStep key) z s) := by
    split
    · exact .rest
    · rename_i z hz; exact HeadStep.headDeltas _ hz
  unfold keyPressed
  cases hrole : s.role with
  | settling => exact .inl ⟨.inl rfl, rfl⟩
  | await => exact .inl ⟨.inr rfl, rfl⟩
  | member => exact .inr (.inl ⟨rfl, rfl⟩)
  | headGather => exact .inr (.inr (.inl ⟨rfl, hhead⟩))
  | headRun => exact .inr (.inr (.inl ⟨rfl, hhead⟩))
  | orphan => exact .inr (.inr (.inr ⟨rfl, rfl⟩))
  | mute => exact .inr (.inr (.inr ⟨rfl, rfl⟩))
  | uncommissioned => simp [hrole, Role.operating] at hop
  | service => simp [hrole, Role.operating] at hop
  | inReset => simp [hrole, Role.operating] at hop

/-- An assertion makes the cell occupied; an onset hands the extra TALLY in MEMBER, is taken by the record in HEAD_RUN, and may set
the light target (R103, R105, R113). -/
theorem contactAsserted_cases (s : State) : ∃ t light,
    (t = occupiedState s ∨ (∃ slots, SlotsHanded s.slots slots ∧ t = { occupiedState s with slots := slots })
      ∨ s.role = .headRun ∧ HeadStep (occupiedState s) t)
    ∧ contactAsserted s = { t with light := light }
    ∧ (light = t.light ∨ light = aimed t.cell.lightPref t.light ∨ s.role.isLocal = true ∧ light = aimed (localTarget t) t.light) := by
  have hfast : ∀ t, ∃ light, fastPath t = { t with light := light } ∧ (light = t.light ∨ light = aimed t.cell.lightPref t.light) := by
    intro t
    obtain heq | heq := fastPath_cases t
    · exact ⟨t.light, heq, .inl rfl⟩
    · exact ⟨_, heq.trans (setTarget_eq _ t), .inr rfl⟩
  unfold contactAsserted
  dsimp only
  split
  · exact ⟨_, s.light, .inl rfl, rfl, .inl rfl⟩
  · unfold occupancyOnset
    dsimp only
    split
    case h_1 hrole =>
      obtain ⟨slots, hslots, hextra⟩ := extraTally_cases (occupiedState s)
      obtain ⟨light, heq, hlight⟩ := hfast (extraTally (occupiedState s))
      exact ⟨_, light, .inr (.inl ⟨slots, hslots, hextra⟩), heq, hlight.imp id .inl⟩
    case h_2 hrole =>
      obtain ⟨light, heq, hlight⟩ := hfast (headOnset (occupiedState s))
      exact ⟨_, light, .inr (.inr ⟨hrole, HeadStep.headOnset hrole⟩), heq, hlight.imp id .inl⟩
    case h_3 hrole =>
      obtain ⟨light, heq, hlight⟩ := hfast (occupiedState s)
      exact ⟨_, light, .inl rfl, heq, hlight.imp id .inl⟩
    case h_4 hrole => exact ⟨_, _, .inl rfl, setTarget_eq _ _, .inr (.inr ⟨by simp [hrole, Role.isLocal], rfl⟩)⟩
    case h_5 hrole => exact ⟨_, _, .inl rfl, setTarget_eq _ _, .inr (.inr ⟨by simp [hrole, Role.isLocal], rfl⟩)⟩
    all_goals exact ⟨_, s.light, .inl rfl, rfl, .inl rfl⟩

end Sys2Proof.Machine
end

section
/-! PROOF. Properties of the cell, the role and their timers: what a property that reads neither the zone record nor the light has
to keep, and that every operation of the blocks then keeps it. -/

namespace Sys2Proof.Machine

/-- `P` reads role, quiet timer, cell and parameters alone, and the changes of these keep it: the entries to the roles, a stored
ORDER, the local round, the contact, the sensor, the keys and the flight of a NUDGE. -/
structure CellKeeps (P : State → Prop) : Prop where
  blind : ∀ s label zone light slots mode line edges churn ties, P s → P { s with
    label := label, zone := zone, light := light, slots := slots, floorMode := mode, line := line, edges := edges,
    churn := churn, ties := ties }
  stored : ∀ o, KeptBy P fun s => { s with cell := storedCell s.params o s.cell }
  enterSettling : ∀ s, s.role.operating = true → s.role ≠ .mute → P s → P (enterSettling s)
  enterHeadGather : ∀ s, s.role = .settling → P s → P (enterHeadGather s)
  bears : ∀ s, s.role = .headGather → P s → P { s with role := .headRun }
  enterAwait : ∀ s, s.role = .settling → P s → P (enterAwait s)
  accepts : ∀ s o answered, s.role = .member → P s → P { s with cell := { storedCell s.params o s.cell with
    lastAnswered := answered, orderTimer := some (3 * seconds s.params.control) } }
  enterMember : ∀ s o answered, s.role.acceptsOrders = true → P s → P { s with
    role := .member
    quiet := none
    cell := { storedCell s.params o s.cell with
      lastAnswered := answered, orderTimer := some (3 * seconds s.params.control), localRound := none } }
  offers : ∀ s, s.role = .member → P s → P (offerNudge s)
  enterOrphan : ∀ s, s.role = .await ∨ s.role = .member → P s → P (enterOrphan s)
  enterMute : KeptBy P enterMute
  localRound : ∀ s, s.role.isLocal = true → P s → P { s with cell := localRoundCell s }
  occupied : KeptBy P occupiedState
  released : KeptBy P contactReleased
  ended : ∀ s n, s.cell.hold = .running n → P s → P { s with cell := { s.cell with occupied := false, hold := .stopped } }
  sensor : ∀ r, KeptBy P (readSensor r)
  pends : ∀ s d, s.role = .settling ∨ s.role = .await ∨ s.role = .member → P s → P (addToNudge d s)
  adjusts : ∀ s d, s.role.isLocal = true → P s → P (adjustPreferences d s)
  flightEnd : KeptBy P flightEnd

namespace CellKeeps

variable {P : State → Prop} (h : CellKeeps P)

include h

theorem light {s : State} (light : Light) (hs : P s) : P { s with light := light } :=
  h.blind s s.label s.zone light s.slots s.floorMode s.line s.edges s.churn s.ties hs

theorem slots {s : State} (slots : Slots) (hs : P s) : P { s with slots := slots } :=
  h.blind s s.label s.zone s.light slots s.floorMode s.line s.edges s.churn s.ties hs

theorem setTarget {s : State} (t : Int) (hs : P s) : P (setTarget t s) := by
  rw [setTarget_eq]
  exact h.light _ hs

/-- An ORDER that a head queues is stored in its own cell. -/
theorem queueOrder_control {s : State} (hop : s.role.operating = true) (z : Zone) (hs : P s) : P (queueOrder .control z s) := by
  rw [queueOrder_control_eq]
  exact h.blind _ s.label (some z) _ _ s.floorMode s.line s.edges s.churn s.ties
    (h.stored (zoneOrder s.params.own .control z) s hop hs)

theorem headStep {s t : State} (hop : s.role.operating = true) (hstep : HeadStep s t) (hs : P s) : P t := by
  cases hstep with
  | rest => exact hs
  | written z z' _ _ => exact h.blind s s.label _ s.light s.slots s.floorMode s.line s.edges s.churn s.ties hs
  | ordered z z' _ _ => exact h.queueOrder_control hop z' hs

theorem keyPressed (key : Key) : KeptBy P (keyPressed key) := by
  intro s hop hs
  obtain ⟨hrole, heq⟩ | ⟨hrole, heq⟩ | ⟨-, hstep⟩ | ⟨hrole, heq⟩ := keyPressed_cases key hop
  · rw [heq]; exact h.pends s _ (hrole.imp id .inl) hs
  · rw [heq]; exact h.offers _ hrole (h.pends s _ (.inr (.inr hrole)) hs)
  · exact h.headStep hop hstep hs
  · rw [heq]
    obtain heq' | heq' := pressLocal_cases (keyStep key) s
    · rw [heq']; exact h.adjusts s _ hrole hs
    · rw [heq']; exact h.setTarget _ (h.adjusts s _ hrole hs)

theorem contactAsserted : KeptBy P contactAsserted := by
  intro s hop hs
  have hocc : P (occupiedState s) := h.occupied s hop hs
  obtain ⟨t, light, ht, heq, -⟩ := contactAsserted_cases s
  rw [heq]
  refine h.light _ ?_
  obtain rfl | ⟨slots, -, rfl⟩ | ⟨-, hstep⟩ := ht
  · exact hocc
  · exact h.slots _ hocc
  · exact h.headStep (s := occupiedState s) hop hstep hocc

theorem takeOrder (o : Order) : KeptBy P (takeOrder o) := by
  intro s hop hs
  obtain heq | ⟨haccepts, -, -, heq⟩ := takeOrder_cases o s
  · rw [heq]; exact hs
  · rw [heq]
    obtain ⟨slots, light, answered, -, -, ⟨hrole, heq'⟩ | ⟨-, heq'⟩⟩ := acceptOrder_cases o s
    · rw [heq']
      exact h.blind _ s.label s.zone light slots s.floorMode s.line s.edges s.churn s.ties
        (h.accepts s o.clamped answered hrole hs)
    · rw [heq']
      exact h.offers _ rfl (h.blind _ s.label s.zone light slots s.floorMode s.line s.edges s.churn s.ties
        (h.enterMember s o.clamped answered haccepts hs))

/-- Such a property is kept by the Zone Head, Cell Control and the Gateway Filter. -/
theorem blocksKeep : BlocksKeep P where
  quietEnded s _ hs := by
    obtain heq | ⟨hrole, -, heq⟩ | ⟨hrole, -, heq⟩ := quietEnded_cases s
    · rw [heq]; exact hs
    · rw [heq]; exact h.enterHeadGather s hrole hs
    · rw [heq]; exact h.enterAwait s hrole hs
  gatherEnded s _ hs := by
    obtain heq | ⟨z, -, hrole, heq⟩ := gatherEnded_cases s
    · rw [heq]; exact hs
    · rw [heq]; exact h.queueOrder_control rfl _ (h.bears s hrole hs)
  roundClosed s hop hs := h.headStep hop (.roundClosed s) hs
  headTally source t s hop hs := h.headStep hop (.headTally source t s) hs
  headNudge n s hop hs := h.headStep hop (.headNudge n s) hs
  filterPreset source p s hop hs := h.headStep hop (.filterPreset source p s) hs
  filterSchedule source code s _ hs := by
    have hmode : ∀ mode, P { s with floorMode := mode } := fun mode =>
      h.blind s s.label s.zone s.light s.slots mode s.line s.edges s.churn s.ties hs
    obtain heq | ⟨mode, heq | heq⟩ := filterSchedule_cases source code s
    · rw [heq]; exact hs
    · rw [heq]; exact hmode mode
    · rw [heq]; exact h.setTarget _ (hmode mode)
  residencyReached s hop hs := h.headStep hop (.residencyReached s) hs
  takeOrder := h.takeOrder
  orderTimedOut s _ hs := by
    obtain heq | ⟨hrole, heq⟩ := orderTimedOut_cases s
    · rw [heq]; exact hs
    · rw [heq]; exact h.enterOrphan s hrole hs
  localRoundEnded s _ hs := by
    obtain heq | ⟨hrole, heq⟩ := localRoundEnded_cases s
    · rw [heq]; exact hs
    · rw [heq]; exact h.localRound s hrole hs
  contactAsserted := h.contactAsserted
  contactReleased := h.released
  holdEnded s _ hs := by
    obtain heq | ⟨n, hrunning, heq | heq⟩ := holdEnded_cases s
    · rw [heq]; exact hs
    · rw [heq]; exact h.ended s n hrunning hs
    · rw [heq]; exact h.setTarget _ (h.ended s n hrunning hs)
  readSensor := h.sensor
  keyPressed := h.keyPressed

/-- Such a property is kept by the Edge Monitor and the Churn Monitor. -/
theorem labelsKeep : LabelsKeep P where
  edges s edges churn ties hs := h.blind s s.label s.zone s.light s.slots s.floorMode s.line edges churn ties hs
  queueMark _ _ hs := h.slots _ hs
  adoptEpoch epoch s hop hs := by
    have hlabel : P { s with label := bestLabel s epoch } :=
      h.blind s _ s.zone s.light s.slots s.floorMode s.line s.edges s.churn s.ties hs
    unfold Machine.adoptEpoch labelChange
    split
    · exact h.slots _ hlabel
    · rename_i hrole; exact h.slots _ (h.enterSettling _ hop hrole hlabel)

/-- Such a property is kept by the Floor Line Interface. -/
theorem blindToLine : BlindToLine P where
  slotsLine s slots line hs := h.blind s s.label s.zone s.light slots s.floorMode line s.edges s.churn s.ties hs
  enterMute := h.enterMute
  flightEnd := h.flightEnd

/-- Such a property is kept by every command when resets, start, port and fade keep it. -/
theorem exec (hS : StoreKeeps P) {c : Instr} {s t : State} (hs : P s) (heq : exec c s = .next t) : P t :=
  exec_keeps h.labelsKeep.edgesKeep h.blocksKeep h.blindToLine.lineKeeps hS hs heq

end CellKeeps

/-! ### What a stored ORDER leaves in the cell -/

/-- A stored ORDER writes the last ORDER, the preferences, the last demand and its outputs, and leaves the rest of the cell. -/
@[simp] theorem storedCell_frame (p : Params) (o : Order) (c : Cell) :
    (storedCell p o c).lastAnswered = c.lastAnswered ∧ (storedCell p o c).localIntegrator = c.localIntegrator ∧
    (storedCell p o c).localRound = c.localRound ∧ (storedCell p o c).orderTimer = c.orderTimer ∧
    (storedCell p o c).nudge = c.nudge ∧ (storedCell p o c).outstanding = c.outstanding ∧
    (storedCell p o c).spent = c.spent ∧ (storedCell p o c).temperature = c.temperature ∧
    (storedCell p o c).tempFault = c.tempFault ∧ (storedCell p o c).contact = c.contact ∧
    (storedCell p o c).occupied = c.occupied ∧ (storedCell p o c).hold = c.hold := by
  unfold storedCell
  cases o.kind <;> simp [followCell]

@[simp] theorem storedCell_lastOrder (p : Params) (o : Order) (c : Cell) : (storedCell p o c).lastOrder = some o := by
  unfold storedCell
  cases o.kind <;> rfl

/-! ### The cell after an entry to a local role, an offered NUDGE and the end of a flight -/

/-- The entry to MUTE is the entry to local control under the MUTE flag, and nothing in MUTE (R149). -/
theorem enterMute_cases (s : State) :
    s.role = .mute ∧ enterMute s = s
    ∨ s.role ≠ .mute ∧ enterMute s = enterLocal { s with
        line := { s.line with mute := true }, role := .mute, quiet := none, zone := none,
        cell := { s.cell with outstanding := none } } := by
  unfold enterMute
  split
  · rename_i h; exact .inl ⟨h, rfl⟩
  · rename_i h; exact .inr ⟨h, rfl⟩

/-- An offered NUDGE writes its slot, the outstanding NUDGE and its mark at most. -/
theorem offerNudge_cell (s : State) : ∃ outstanding spent, (offerNudge s).cell =
      { s.cell with outstanding := outstanding, spent := spent }
    ∧ (outstanding = s.cell.outstanding ∧ spent = s.cell.spent ∨ outstanding.isSome = true ∧ spent = false) := by
  obtain ⟨-, heq⟩ | ⟨-, -, heq⟩ := offerNudge_cases s
  · exact ⟨_, _, by rw [heq], .inl ⟨rfl, rfl⟩⟩
  · exact ⟨_, _, by rw [heq], .inr ⟨rfl, rfl⟩⟩

/-- The end of a flight writes the pending nudge, the outstanding NUDGE and its mark at most: nothing where nothing was
outstanding; and else a mark only with a NUDGE handed on, and a pending nudge only in SETTLING, AWAIT and MEMBER. -/
theorem flightEnd_cell (s : State) : ∃ nudge outstanding spent, (flightEnd s).cell =
      { s.cell with nudge := nudge, outstanding := outstanding, spent := spent }
    ∧ (s.cell.outstanding = none ∧ nudge = s.cell.nudge ∧ outstanding = none ∧ spent = s.cell.spent
      ∨ ∃ d, s.cell.outstanding = some d ∧ spent = false
        ∧ (nudge = s.cell.nudge ∨ nudge = remainder s.cell d)
        ∧ (s.role ≠ .member → outstanding = none)
        ∧ (s.role.isHead = true ∨ s.role.isLocal = true → nudge = s.cell.nudge)) := by
  obtain ⟨hnone, heq⟩ | ⟨d, hsome, ⟨hrole, heq⟩ | ⟨hrole, heq⟩ | ⟨hm, hs, ha, heq⟩⟩ := flightEnd_cases s
  · exact ⟨_, _, _, by rw [heq], .inl ⟨hnone, rfl, hnone, rfl⟩⟩
  · obtain ⟨outstanding, spent, hcell, hoffer⟩ := offerNudge_cell
      { s with cell := { s.cell with nudge := remainder s.cell d, outstanding := none, spent := false } }
    refine ⟨remainder s.cell d, outstanding, spent, by rw [heq, hcell], .inr ⟨d, hsome, ?_, .inr rfl, ?_, ?_⟩⟩
    · obtain ⟨-, h⟩ | ⟨-, h⟩ := hoffer <;> exact h
    · exact fun h => absurd hrole h
    · simp [hrole, Role.isHead, Role.isLocal]
  · refine ⟨_, _, _, by rw [heq], .inr ⟨d, hsome, rfl, .inr rfl, fun _ => rfl, ?_⟩⟩
    obtain h | h := hrole <;> simp [h, Role.isHead, Role.isLocal]
  · exact ⟨_, _, _, by rw [heq], .inr ⟨d, hsome, rfl, .inl rfl, fun _ => rfl, fun _ => rfl⟩⟩

end Sys2Proof.Machine
end

section
/-! PROOF. The timers (R2, R8, R9, R48, R98, R126): the quiet, order and local round timers and the roles they run in, and the
settle and silence timers of the entries. -/

namespace Sys2Proof.Machine

/-! ### The timers of the roles -/

/-- A running timer still runs after one bit time, and a stopped one stays stopped. -/
@[simp] theorem tickTimer_isSome (t : Timer) : (tickTimer t).isSome = t.isSome := by
  cases t <;> rfl

theorem enterLocal_timers (s : State) :
    (enterLocal s).cell.orderTimer = none ∧ (enterLocal s).cell.localRound.isSome = true := by
  obtain ⟨_, _, _, _, hcell, -⟩ := enterLocal_cell s
  rw [hcell]
  exact ⟨rfl, rfl⟩

theorem timersSound_cellKeeps : CellKeeps State.timersSound where
  blind _ _ _ _ _ _ _ _ _ _ hs := hs
  stored o s _ hs := by simpa [State.timersSound] using hs
  enterSettling s _ _ _ := by simp [State.timersSound, Role.isLocal]
  enterHeadGather s hrole hs := by
    have hlocal : s.cell.localRound = none := by simpa [hrole, Role.isLocal] using hs.2.2
    rw [enterHeadGather_eq]
    simp [State.timersSound, Role.isLocal, hlocal]
  bears s hrole hs := by simpa [State.timersSound, hrole, Role.isLocal] using hs
  enterAwait s hrole hs := by
    have hlocal : s.cell.localRound = none := by simpa [hrole, Role.isLocal] using hs.2.2
    simp [State.timersSound, enterAwait, startOrderTimer, Role.isLocal, hlocal]
  accepts s o _ hrole hs := by
    have hquiet : s.quiet = none := by simpa [hrole] using hs.1
    have hlocal : s.cell.localRound = none := by simpa [hrole, Role.isLocal] using hs.2.2
    simp [State.timersSound, hrole, hquiet, hlocal, Role.isLocal]
  enterMember s o _ _ _ := by simp [State.timersSound, Role.isLocal]
  offers s _ hs := by
    obtain ⟨_, _, hcell, -⟩ := offerNudge_cell s
    simpa [State.timersSound, hcell] using hs
  enterOrphan s hrole hs := by
    have hquiet : s.quiet = none := by
      obtain h | h := hrole <;> simpa [h] using hs.1
    obtain ⟨horder, hlocal⟩ := enterLocal_timers { s with role := .orphan }
    exact ⟨by simp [enterOrphan, hquiet], by simp [enterOrphan, horder], by simp [enterOrphan, hlocal, Role.isLocal]⟩
  enterMute s _ hs := by
    obtain ⟨-, heq⟩ | ⟨-, heq⟩ := enterMute_cases s
    · rw [heq]; exact hs
    · rw [heq]
      obtain ⟨horder, hlocal⟩ := enterLocal_timers { s with
        line := { s.line with mute := true }, role := .mute, quiet := none, zone := none,
        cell := { s.cell with outstanding := none } }
      exact ⟨by simp, by simp [horder], by simp [hlocal, Role.isLocal]⟩
  localRound s hrole hs := ⟨hs.1, hs.2.1, by simp [localRoundCell, hrole]⟩
  occupied _ _ hs := hs
  released _ _ hs := hs
  ended _ _ _ hs := hs
  sensor r s _ hs := by rw [readSensor_eq]; exact hs
  pends _ _ _ hs := hs
  adjusts _ _ _ hs := hs
  flightEnd s _ hs := by
    obtain ⟨_, _, _, hcell, -⟩ := flightEnd_cell s
    simpa [State.timersSound, hcell] using hs

theorem timersSound_blindToPort : BlindToPort State.timersSound where
  port _ _ _ hs := hs
  outputs _ _ _ _ hs := hs
  rest role light damper reheat store s hrest := by
    cases role <;> simp_all [State.timersSound, restState, State.reset, Cell.uncommissioned, Role.operating, Role.isLocal]
  start inputs s := by
    rw [startOperating_eq]
    simp [State.timersSound, startState, Cell.uncommissioned, Role.isLocal]

/-! ### The timers of the entries -/

theorem edgeTimersSound_iff (s : State) : s.edgeTimersSound ↔ ∀ d, (edgeAt s d).timersSound := by
  constructor
  · rintro ⟨hn, he, hs, hw⟩ d
    cases d
    · exact hn
    · exact he
    · exact hs
    · exact hw
  · exact fun h => ⟨h .north, h .east, h .south, h .west⟩

theorem edgeTimersSound_keeps : EntryKeeps Edge.timersSound where
  raw e level n hkind hs := by
    refine ⟨?_, hs.2⟩
    by_cases h : trackOf level = e.sensed <;> simp [h, hkind]
  settled _ _ _ _ hs := ⟨by simp [settledEdge], hs.2⟩
  settledAnew _ _ _ hs := ⟨by simp [settledEdge, reevaluated], hs.2⟩
  released e hs := by
    unfold releasedEdge
    split <;> exact hs
  heard _ _ hs := ⟨hs.1, by simp [heardEdge]⟩
  heardAnew _ hs := ⟨hs.1, by simp [heardEdge, reevaluated]⟩
  lost _ hs := ⟨hs.1, by simp [lostEdge, reevaluated]⟩
  stored _ _ hs := ⟨hs.1, by simp [storedEdge, reevaluated]⟩

/-- At start no timer of an entry runs: the one sample sets raw and sensed states alike (R18). -/
theorem edgeTimersSound_start (own : Station) (bytes : List Byte) (tracks : PerDir Level) (d : Dir) :
    (startEdge own bytes tracks d).timersSound := by
  obtain ⟨kind, neighbour, raw, heq⟩ := startEdge_cases own bytes tracks d
  rw [heq]
  simp [Edge.timersSound, Edge.unused]

/-- One bit time keeps every timer of an entry running or stopped. -/
theorem edgeTimersSound_tick {e : Edge} (h : e.timersSound) : (tickEdge e).timersSound := by
  simpa [Edge.timersSound, tickEdge] using h

/-- Settles O11: each role starts its own timers and stops the others, and each entry's timers move with what they time. -/
theorem stepKeepsTimersSound : Obligations.StepKeepsTimersSound := by
  intro s t htimers hedges h
  have htime : ∀ u : State, u.timersSound → (advance u).timersSound := fun u hu => by
    simpa [State.timersSound, advance] using hu
  refine ⟨step_keeps (P := State.timersSound) (fun _ _ _ hs => hs) htime
    (timersSound_cellKeeps.exec timersSound_blindToPort.storeKeeps) htimers h, ?_⟩
  rw [edgeTimersSound_iff] at hedges ⊢
  have hedgeTime : ∀ u : State, (∀ d, (edgeAt u d).timersSound) → ∀ d, (edgeAt (advance u) d).timersSound :=
    fun u hu d => by rw [edgeAt_advance]; exact edgeTimersSound_tick (hu d)
  refine step_keeps (P := fun s => ∀ d, (edgeAt s d).timersSound) (fun _ _ _ hs => hs) hedgeTime
    (exec_keeps (EntryKeeps.edgesKeep fun _ => edgeTimersSound_keeps) (readsLabels_edges fun _ => Edge.timersSound).blocksKeep
      (readsLabels_edges fun _ => Edge.timersSound).lineKeeps
      (blindToPort_edges (R := Edge.timersSound) (by decide) edgeTimersSound_start).storeKeeps) hedges h

end Sys2Proof.Machine
end

section
/-! PROOF. Occupancy, presses and the sensor (R103, R104, R130, R135). -/

namespace Sys2Proof.Machine

/-! ### Occupancy -/

/-- The entry to local control leaves the contact, the occupancy, the sensor and the outstanding NUDGE as they are, empties the
pending nudge and marks what is outstanding. -/
theorem enterLocal_cell_frame (s : State) :
    (enterLocal s).cell.contact = s.cell.contact ∧ (enterLocal s).cell.occupied = s.cell.occupied ∧
    (enterLocal s).cell.hold = s.cell.hold ∧ (enterLocal s).cell.temperature = s.cell.temperature ∧
    (enterLocal s).cell.tempFault = s.cell.tempFault ∧ (enterLocal s).cell.outstanding = s.cell.outstanding ∧
    (enterLocal s).cell.nudge = ⟨0, 0⟩ ∧ (enterLocal s).cell.spent = s.cell.outstanding.isSome := by
  obtain ⟨_, _, _, _, hcell, -⟩ := enterLocal_cell s
  rw [hcell]
  exact ⟨rfl, rfl, rfl, rfl, rfl, rfl, rfl, rfl⟩

/-- The entry to MUTE leaves the contact, the occupancy and the sensor as they are. -/
theorem enterMute_cell_frame (s : State) :
    (enterMute s).cell.contact = s.cell.contact ∧ (enterMute s).cell.occupied = s.cell.occupied ∧
    (enterMute s).cell.hold = s.cell.hold ∧ (enterMute s).cell.temperature = s.cell.temperature ∧
    (enterMute s).cell.tempFault = s.cell.tempFault := by
  obtain ⟨-, heq⟩ | ⟨-, heq⟩ := enterMute_cases s
  · rw [heq]; exact ⟨rfl, rfl, rfl, rfl, rfl⟩
  · rw [heq]; simp [enterLocal_cell_frame]

theorem occupancySound_cellKeeps : CellKeeps State.occupancySound where
  blind _ _ _ _ _ _ _ _ _ _ hs := hs
  stored o s _ hs := by simpa [State.occupancySound] using hs
  enterSettling _ _ _ hs := hs
  enterHeadGather _ _ hs := hs
  bears _ _ hs := hs
  enterAwait _ _ hs := hs
  accepts s o _ _ hs := by simpa [State.occupancySound] using hs
  enterMember s o _ _ hs := by simpa [State.occupancySound] using hs
  offers s _ hs := by
    obtain ⟨_, _, hcell, -⟩ := offerNudge_cell s
    simpa [State.occupancySound, hcell] using hs
  enterOrphan s _ hs := by simpa [State.occupancySound, enterOrphan, enterLocal_cell_frame] using hs
  enterMute s _ hs := by simpa [State.occupancySound, enterMute_cell_frame] using hs
  localRound _ _ hs := hs
  occupied _ _ _ := by simp [State.occupancySound, occupiedState, occupiedCell]
  released s _ hs := by
    obtain ⟨-, hstopped⟩ := hs
    cases hhold : s.cell.hold <;> simp_all [State.occupancySound, contactReleased]
  ended s n hrunning hs := by
    obtain ⟨hheld, -⟩ := hs
    simp_all [State.occupancySound]
  sensor r s _ hs := by rw [readSensor_eq]; exact hs
  pends _ _ _ hs := hs
  adjusts _ _ _ hs := hs
  flightEnd s _ hs := by
    obtain ⟨_, _, _, hcell, -⟩ := flightEnd_cell s
    simpa [State.occupancySound, hcell] using hs

theorem occupancySound_blindToPort : BlindToPort State.occupancySound where
  port _ _ _ hs := hs
  outputs _ _ _ _ hs := hs
  rest _ _ _ _ _ _ _ := by simp [State.occupancySound, restState, Cell.uncommissioned]
  start inputs s := by
    rw [startOperating_eq]
    cases hcontact : inputs.contact <;> simp [State.occupancySound]

/-- One bit time leaves the contact and the occupancy, and keeps the hold timer held, running or stopped (R103). -/
theorem occupancySound_advance {s : State} (h : s.occupancySound) : (advance s).occupancySound := by
  cases hhold : s.cell.hold <;> simp_all [State.occupancySound, advance, tickHold]

/-! ### The pending nudge and the outstanding NUDGE -/

theorem nudgeSound_cellKeeps : CellKeeps State.nudgeSound where
  blind _ _ _ _ _ _ _ _ _ _ hs := hs
  stored o s _ hs := by simpa [State.nudgeSound] using hs
  enterSettling s _ _ hs := by
    obtain ⟨-, -, hspent, -⟩ := hs
    simpa [State.nudgeSound, Role.isHead, Role.isLocal] using hspent
  enterHeadGather s _ _ := by
    rw [enterHeadGather_eq]
    simp [State.nudgeSound]
  bears s hrole hs := by
    obtain ⟨hnudge, -, hspent, hmarked⟩ := hs
    simp_all [State.nudgeSound, Role.isHead]
  enterAwait s _ hs := by
    obtain ⟨-, -, hspent, -⟩ := hs
    simpa [State.nudgeSound, Role.isHead, Role.isLocal, enterAwait, startOrderTimer] using hspent
  accepts s o _ _ hs := by simpa [State.nudgeSound] using hs
  enterMember s o _ _ hs := by
    obtain ⟨-, -, hspent, -⟩ := hs
    simpa [State.nudgeSound, Role.isHead, Role.isLocal] using hspent
  offers s hrole hs := by
    obtain ⟨outstanding, spent, hcell, hoffer⟩ := offerNudge_cell s
    obtain ⟨-, -, hspent, -⟩ := hs
    obtain ⟨rfl, rfl⟩ | ⟨-, rfl⟩ := hoffer <;> simp_all [State.nudgeSound, Role.isHead, Role.isLocal]
  enterOrphan s _ _ := by simp [State.nudgeSound, enterOrphan, enterLocal_cell_frame]
  enterMute s _ hs := by
    obtain ⟨-, heq⟩ | ⟨-, heq⟩ := enterMute_cases s
    · rw [heq]; exact hs
    · rw [heq]; simp [State.nudgeSound, enterLocal_cell_frame]
  localRound _ _ hs := hs
  occupied _ _ hs := hs
  released _ _ hs := hs
  ended _ _ _ hs := hs
  sensor r s _ hs := by rw [readSensor_eq]; exact hs
  pends s d hrole hs := by
    obtain ⟨-, -, hspent, -⟩ := hs
    obtain h | h | h := hrole <;> simpa [State.nudgeSound, addToNudge, h, Role.isHead, Role.isLocal] using hspent
  adjusts _ _ _ hs := hs
  flightEnd s _ hs := by
    obtain ⟨nudge, outstanding, spent, hcell, hflight⟩ := flightEnd_cell s
    obtain ⟨hnudge, hmute, hspent, hmarked⟩ := hs
    simp only [State.nudgeSound, hcell, flightEnd_frame]
    obtain ⟨hnone, rfl, rfl, rfl⟩ | ⟨d, -, rfl, -, hcleared, hkept⟩ := hflight
    · exact ⟨hnudge, fun _ => rfl, by simpa [hnone] using hspent, by simpa [hnone] using hmarked⟩
    · refine ⟨fun hrole => (hkept hrole).trans (hnudge hrole), fun hrole => hcleared (by simp [hrole]), by simp, fun hrole => ?_⟩
      rw [hcleared (by rintro hmember; simp [hmember, Role.isHead] at hrole)]
      rfl

theorem nudgeSound_blindToPort : BlindToPort State.nudgeSound where
  port _ _ _ hs := hs
  outputs _ _ _ _ hs := hs
  rest _ _ _ _ _ _ _ := by simp [State.nudgeSound, restState, Cell.uncommissioned]
  start inputs s := by
    rw [startOperating_eq]
    simp [State.nudgeSound, startState, Cell.uncommissioned]

/-! ### The sensor -/

/-- The sensor property passes between two operating states with one temperature and one TEMP_FAULT. -/
theorem sensorSound_of_eq {s t : State} (hop : s.role.operating = true) (htemp : t.cell.temperature = s.cell.temperature)
    (hfault : t.cell.tempFault = s.cell.tempFault) (h : s.sensorSound) : t.sensorSound := fun _ => by
  rw [htemp, hfault]
  exact h hop

theorem sensorSound_read (r : SensorReading) (s : State) : (readSensor r s).sensorSound := by
  rw [readSensor_eq]
  exact fun _ => ⟨by simp, readTemperature_within⟩

theorem sensorSound_cellKeeps : CellKeeps State.sensorSound where
  blind _ _ _ _ _ _ _ _ _ _ hs := hs
  stored o s hop hs := sensorSound_of_eq (s := s) hop (by simp) (by simp) hs
  enterSettling s hop _ hs := sensorSound_of_eq hop rfl rfl hs
  enterHeadGather s hrole hs := sensorSound_of_eq (s := s) (by simp [hrole, Role.operating]) rfl rfl hs
  bears s hrole hs := sensorSound_of_eq (s := s) (by simp [hrole, Role.operating]) rfl rfl hs
  enterAwait s hrole hs := sensorSound_of_eq (s := s) (by simp [hrole, Role.operating]) rfl rfl hs
  accepts s o _ hrole hs := sensorSound_of_eq (s := s) (by simp [hrole, Role.operating]) (by simp) (by simp) hs
  enterMember s o _ haccepts hs := by
    refine sensorSound_of_eq (s := s) ?_ (by simp) (by simp) hs
    cases hrole : s.role <;> simp_all [Role.acceptsOrders, Role.operating]
  offers s hrole hs := by
    obtain ⟨_, _, hcell, -⟩ := offerNudge_cell s
    exact sensorSound_of_eq (by simp [hrole, Role.operating]) (by rw [hcell]) (by rw [hcell]) hs
  enterOrphan s hrole hs := by
    refine sensorSound_of_eq (s := s) ?_ (by simp [enterOrphan, enterLocal_cell_frame])
      (by simp [enterOrphan, enterLocal_cell_frame]) hs
    obtain h | h := hrole <;> simp [h, Role.operating]
  enterMute s hop hs := sensorSound_of_eq hop (by simp [enterMute_cell_frame]) (by simp [enterMute_cell_frame]) hs
  localRound _ _ hs := hs
  occupied _ _ hs := hs
  released _ _ hs := hs
  ended _ _ _ hs := hs
  sensor r s _ _ := sensorSound_read r s
  pends _ _ _ hs := hs
  adjusts _ _ _ hs := hs
  flightEnd s hop hs := by
    obtain ⟨_, _, _, hcell, -⟩ := flightEnd_cell s
    exact sensorSound_of_eq hop (by rw [hcell]) (by rw [hcell]) hs

theorem sensorSound_blindToPort : BlindToPort State.sensorSound where
  port _ _ _ hs := hs
  outputs _ _ _ _ hs := hs
  rest _ _ _ _ _ _ hrest hop := absurd (hrest.symm.trans hop) (by decide)
  start inputs s := by
    rw [startOperating_eq]
    exact fun _ => ⟨by simp, readTemperature_within⟩

/-- Settles O16: the contact and the hold timer move together, the entries to the roles empty the pending nudge and mark what is
outstanding, and a sensor read sets temperature and TEMP_FAULT together. -/
theorem stepKeepsCellSound : Obligations.StepKeepsCellSound := fun _ _ hocc hnudge hsensor h =>
  ⟨step_keeps (P := State.occupancySound) (fun _ _ _ hs => hs) (fun _ => occupancySound_advance)
      (occupancySound_cellKeeps.exec occupancySound_blindToPort.storeKeeps) hocc h,
    step_keeps (P := State.nudgeSound) (fun _ _ _ hs => hs) (fun _ hs => hs)
      (nudgeSound_cellKeeps.exec nudgeSound_blindToPort.storeKeeps) hnudge h,
    step_keeps (P := State.sensorSound) (fun _ _ _ hs => hs) (fun _ hs => hs)
      (sensorSound_cellKeeps.exec sensorSound_blindToPort.storeKeeps) hsensor h⟩

end Sys2Proof.Machine
end

section
/-! PROOF. The damper and reheat commands (R129): every operation that sets a last demand maps it at once, and a service tool
drives the outputs under a clear lock flag only, which no operating cell has (R174). -/

namespace Sys2Proof.Machine

/-- The outputs of an operating cell are the mapping of its last demand, and its lock flag is set. -/
def OutputsLocked (s : State) : Prop :=
  s.role.operating = true → s.store.lock = true ∧ s.cell.damper = damperFor s.params s.cell.lastDemand
    ∧ s.cell.reheat = reheatFor s.cell.lastDemand

/-- The property passes from an operating state to one with the same lock flag, parameters, outputs and last demand. -/
theorem outputsLocked_of_eq {s t : State} (hop : s.role.operating = true) (hstore : t.store = s.store)
    (hparams : t.params = s.params) (hdemand : t.cell.lastDemand = s.cell.lastDemand)
    (hdamper : t.cell.damper = s.cell.damper) (hreheat : t.cell.reheat = s.cell.reheat) (h : OutputsLocked s) :
    OutputsLocked t := fun _ => by
  rw [hstore, hparams, hdemand, hdamper, hreheat]
  exact h hop

/-- A demand that is mapped as it is set gives the property. -/
theorem outputsLocked_of_mapped {s t : State} (hop : s.role.operating = true) (hstore : t.store = s.store)
    (hdamper : t.cell.damper = damperFor t.params t.cell.lastDemand) (hreheat : t.cell.reheat = reheatFor t.cell.lastDemand)
    (h : OutputsLocked s) : OutputsLocked t := fun _ => ⟨by rw [hstore]; exact (h hop).1, hdamper, hreheat⟩

theorem outputsLocked_enterLocal {s t : State} (hop : s.role.operating = true) (hstore : t.store = s.store)
    (h : OutputsLocked s) : OutputsLocked (enterLocal t) := by
  obtain ⟨_, _, _, _, hcell, -⟩ := enterLocal_cell t
  exact outputsLocked_of_mapped hop (by simpa using hstore) (by rw [hcell]; simp) (by rw [hcell]) h

/-- A stored CALL leaves the outputs, and a stored CONTROL ORDER maps its demand (R121, R123). -/
theorem outputsLocked_storedCell {s t : State} (o : Order) (hop : s.role.operating = true) (hstore : t.store = s.store)
    (hparams : t.params = s.params) (hdemand : t.cell.lastDemand = (storedCell s.params o s.cell).lastDemand)
    (hdamper : t.cell.damper = (storedCell s.params o s.cell).damper)
    (hreheat : t.cell.reheat = (storedCell s.params o s.cell).reheat) (h : OutputsLocked s) : OutputsLocked t := by
  intro _
  obtain ⟨hlock, hd, hr⟩ := h hop
  rw [hstore, hparams, hdemand, hdamper, hreheat]
  refine ⟨hlock, ?_⟩
  unfold storedCell
  cases o.kind with
  | call => exact ⟨hd, hr⟩
  | control => exact ⟨rfl, rfl⟩

theorem outputsLocked_cellKeeps : CellKeeps OutputsLocked where
  blind _ _ _ _ _ _ _ _ _ _ hs := hs
  stored o s hop hs := outputsLocked_storedCell (s := s) o hop rfl rfl rfl rfl rfl hs
  enterSettling s hop _ hs := outputsLocked_of_eq hop rfl rfl rfl rfl rfl hs
  enterHeadGather s hrole hs := outputsLocked_of_eq (s := s) (by simp [hrole, Role.operating]) rfl rfl rfl rfl rfl hs
  bears s hrole hs := outputsLocked_of_eq (s := s) (by simp [hrole, Role.operating]) rfl rfl rfl rfl rfl hs
  enterAwait s hrole hs := outputsLocked_of_eq (s := s) (by simp [hrole, Role.operating]) rfl rfl rfl rfl rfl hs
  accepts s o _ hrole hs :=
    outputsLocked_storedCell (s := s) o (by simp [hrole, Role.operating]) rfl rfl rfl rfl rfl hs
  enterMember s o _ haccepts hs := by
    refine outputsLocked_storedCell (s := s) o ?_ rfl rfl rfl rfl rfl hs
    cases hrole : s.role <;> simp_all [Role.acceptsOrders, Role.operating]
  offers s hrole hs := by
    obtain ⟨_, _, hcell, -⟩ := offerNudge_cell s
    exact outputsLocked_of_eq (s := s) (by simp [hrole, Role.operating]) (by simp) (by simp) (by rw [hcell]) (by rw [hcell])
      (by rw [hcell]) hs
  enterOrphan s hrole hs := by
    refine outputsLocked_enterLocal (s := s) ?_ rfl hs
    obtain h | h := hrole <;> simp [h, Role.operating]
  enterMute s hop hs := by
    obtain ⟨-, heq⟩ | ⟨-, heq⟩ := enterMute_cases s
    · rw [heq]; exact hs
    · rw [heq]; exact outputsLocked_enterLocal hop rfl hs
  localRound s hrole hs := by
    refine outputsLocked_of_mapped (s := s) ?_ rfl rfl rfl hs
    cases h : s.role <;> simp_all [Role.isLocal, Role.operating]
  occupied _ _ hs := hs
  released _ _ hs := hs
  ended _ _ _ hs := hs
  sensor r s _ hs := by rw [readSensor_eq]; exact hs
  pends _ _ _ hs := hs
  adjusts _ _ _ hs := hs
  flightEnd s hop hs := by
    obtain ⟨_, _, _, hcell, -⟩ := flightEnd_cell s
    exact outputsLocked_of_eq hop (by simp) (by simp) (by rw [hcell]) (by rw [hcell]) (by rw [hcell]) hs

theorem outputsLocked_storeKeeps : StoreKeeps OutputsLocked where
  resetStarted _ _ := by rw [resetStarted_eq]; exact fun hop => by cases hop
  enterService _ _ := by rw [enterService_eq]; exact fun hop => by cases hop
  enterUncommissioned _ _ := by rw [enterUncommissioned_eq]; exact fun hop => by cases hop
  startOperating inputs s _ _ := by
    rw [startOperating_eq]
    exact fun _ => ⟨rfl, rfl, rfl⟩
  answer _ _ _ hs := hs
  beginWrite _ _ _ _ hs := hs
  drive _ s hlock hs hop := absurd ((hs hop).1.symm.trans hlock) (by decide)
  writeCompleted s hs := by
    obtain ⟨-, heq⟩ | ⟨data, -, heq⟩ := writeCompleted_cases s
    · rw [heq]; exact hs
    · rw [heq]; exact hs
  replyEnded s hs := by
    obtain heq | heq := replyEnded_cases s
    · rw [heq]; exact hs
    · rw [heq]; exact hs
  fadeStepped s hs := by
    obtain ⟨output, phase, heq, -⟩ := fadeStepped_cases s
    rw [heq]; exact hs

/-- Settles O8: in operation the lock flag is set, so that only the operations which map a demand touch the outputs. -/
theorem stepKeepsOutputsMapped : Obligations.StepKeepsOutputsMapped := by
  intro s t hmapped hlock h
  have hlocked : OutputsLocked s := fun hop => by
    have hset : s.store.lock = true := by
      rw [← Bool.not_eq_false]
      exact fun hclear => ne_service_of_operating hop (hlock.1 hclear)
    exact ⟨hset, hmapped hop⟩
  intro hop
  exact (step_keeps (P := OutputsLocked) (fun _ _ _ hs => hs) (fun _ hs => hs)
    (outputsLocked_cellKeeps.exec outputsLocked_storeKeeps) hlocked h hop).2

end Sys2Proof.Machine
end

section
/-! PROOF. Properties of a head's record: the record exists in the head roles alone, and what is written into it, with or without
an ORDER, is one of the writes of `HeadStep`, the creation or the birth. -/

namespace Sys2Proof.Machine

/-- A record exists exactly in the head roles, and `Z` holds of it. -/
def RecordHas (Z : State → Zone → Prop) (s : State) : Prop :=
  (s.zone.isSome = true ↔ s.role.isHead = true) ∧ ∀ z ∈ s.zone, Z s z

/-- `Z` reads role, label, parameters and, of the cell, the last ORDER, the preferences and the last demand; and a head's writes
into its record keep it. -/
structure RecordKeeps (Z : State → Zone → Prop) : Prop where
  congr : ∀ {s t z}, t.role = s.role → t.label = s.label → t.params = s.params → t.cell.lastOrder = s.cell.lastOrder →
    t.cell.tempPref = s.cell.tempPref → t.cell.lightPref = s.cell.lightPref → t.cell.lastDemand = s.cell.lastDemand →
    Z s z → Z t z
  created : ∀ s, s.role = .settling → s.label.root = s.params.own → Z (enterHeadGather s) (newZone s)
  born : ∀ s z, s.zone = some z → s.role = .headGather → Z s z →
    Z (queueOrder .control (bornZone s z) { s with role := .headRun }) (bornZone s z)
  written : ∀ s z z', RecordWrite s z z' → Z s z → Z s z'
  ordered : ∀ s z z', RecordOrder s z z' → Z s z → Z (queueOrder .control z' s) z'

namespace RecordHas

/-- Outside the head roles there is no record. -/
theorem zone_eq_none {Z : State → Zone → Prop} {s : State} (h : RecordHas Z s) (hrole : s.role.isHead = false) :
    s.zone = none := by
  have hiff := h.1
  rw [hrole] at hiff
  simpa using hiff

/-- A state of another role without a record has the property. -/
theorem of_none {Z : State → Zone → Prop} {s : State} (hzone : s.zone = none) (hrole : s.role.isHead = false) :
    RecordHas Z s :=
  ⟨by simp [hzone, hrole], by simp [hzone]⟩

/-- A state of a head role with a record of which `Z` holds has the property. -/
theorem of_some {Z : State → Zone → Prop} {s : State} {z : Zone} (hzone : s.zone = some z) (hrole : s.role.isHead = true)
    (hz : Z s z) : RecordHas Z s :=
  ⟨by simp [hzone, hrole], by simpa [hzone] using hz⟩

end RecordHas

namespace RecordKeeps

variable {Z : State → Zone → Prop} (h : RecordKeeps Z)

include h

/-- The property passes to a state with the same record and the same values that `Z` reads. -/
theorem of_eq {s t : State} (hzone : t.zone = s.zone) (hrole : t.role = s.role) (hlabel : t.label = s.label)
    (hparams : t.params = s.params) (horder : t.cell.lastOrder = s.cell.lastOrder)
    (htemp : t.cell.tempPref = s.cell.tempPref) (hlight : t.cell.lightPref = s.cell.lightPref)
    (hdemand : t.cell.lastDemand = s.cell.lastDemand) (hs : RecordHas Z s) : RecordHas Z t := by
  refine ⟨by rw [hzone, hrole]; exact hs.1, fun z hz => ?_⟩
  rw [hzone] at hz
  exact h.congr hrole hlabel hparams horder htemp hlight hdemand (hs.2 z hz)

/-- A head's step keeps the property (R62 to R76). -/
theorem headStep {s t : State} (hstep : HeadStep s t) (hs : RecordHas Z s) : RecordHas Z t := by
  have hhead : ∀ z, s.zone = some z → s.role.isHead = true := fun z hz => hs.1.1 (by rw [hz]; rfl)
  cases hstep with
  | rest => exact hs
  | written z z' hz hwrite =>
    exact .of_some rfl (hhead z hz) (h.congr (s := s) rfl rfl rfl rfl rfl rfl rfl (h.written s z z' hwrite (hs.2 z hz)))
  | ordered z z' hz horder => exact .of_some (by simp) (by simpa using hhead z hz) (h.ordered s z z' horder (hs.2 z hz))

/-- What touches the light alone keeps the property. -/
theorem light {s : State} (l : Light) (hs : RecordHas Z s) : RecordHas Z { s with light := l } :=
  h.of_eq (s := s) rfl rfl rfl rfl rfl rfl rfl rfl hs

theorem setTarget {s : State} (t : Int) (hs : RecordHas Z s) : RecordHas Z (setTarget t s) := by
  rw [setTarget_eq]
  exact h.light _ hs

theorem keyPressed (key : Key) : KeptBy (RecordHas Z) (keyPressed key) := by
  intro s hop hs
  have hpend : RecordHas Z (addToNudge (keyStep key) s) := h.of_eq (s := s) rfl rfl rfl rfl rfl rfl rfl rfl hs
  obtain ⟨-, heq⟩ | ⟨-, heq⟩ | ⟨-, hstep⟩ | ⟨hrole, heq⟩ := keyPressed_cases key hop
  · rw [heq]; exact hpend
  · rw [heq]
    obtain ⟨_, _, hcell, -⟩ := offerNudge_cell (addToNudge (keyStep key) s)
    exact h.of_eq (by simp) (by simp) (by simp) (by simp) (by rw [hcell]) (by rw [hcell]) (by rw [hcell]) (by rw [hcell])
      hpend
  · exact h.headStep hstep hs
  · have hnot : s.role.isHead = false := by cases hr : s.role <;> simp_all [Role.isLocal, Role.isHead]
    have hadjust : RecordHas Z (adjustPreferences (keyStep key) s) := .of_none (hs.zone_eq_none hnot) hnot
    rw [heq]
    obtain heq' | heq' := pressLocal_cases (keyStep key) s
    · rw [heq']; exact hadjust
    · rw [heq']; exact h.setTarget _ hadjust

theorem contactAsserted : KeptBy (RecordHas Z) contactAsserted := by
  intro s _ hs
  have hocc : RecordHas Z (occupiedState s) := h.of_eq (s := s) rfl rfl rfl rfl rfl rfl rfl rfl hs
  obtain ⟨t, light, ht, heq, -⟩ := contactAsserted_cases s
  rw [heq]
  refine h.light _ ?_
  obtain rfl | ⟨slots, -, rfl⟩ | ⟨-, hstep⟩ := ht
  · exact hocc
  · exact h.of_eq (s := occupiedState s) rfl rfl rfl rfl rfl rfl rfl rfl hocc
  · exact h.headStep hstep hocc

/-- Such a property is kept by the Zone Head, Cell Control and the Gateway Filter. -/
theorem blocksKeep : BlocksKeep (RecordHas Z) where
  quietEnded s _ hs := by
    obtain heq | ⟨hrole, hroot, heq⟩ | ⟨hrole, -, heq⟩ := quietEnded_cases s
    · rw [heq]; exact hs
    · rw [heq]; exact .of_some rfl rfl (h.created s hrole hroot)
    · rw [heq]; exact .of_none (hs.zone_eq_none (by simp [hrole, Role.isHead])) rfl
  gatherEnded s _ hs := by
    obtain heq | ⟨z, hz, hrole, heq⟩ := gatherEnded_cases s
    · rw [heq]; exact hs
    · rw [heq]; exact .of_some (by simp) (by simp [Role.isHead]) (h.born s z hz hrole (hs.2 z hz))
  roundClosed s _ hs := h.headStep (.roundClosed s) hs
  headTally source t s _ hs := h.headStep (.headTally source t s) hs
  headNudge n s _ hs := h.headStep (.headNudge n s) hs
  filterPreset source p s _ hs := h.headStep (.filterPreset source p s) hs
  filterSchedule source code s _ hs := by
    have hmode : ∀ mode, RecordHas Z { s with floorMode := mode } := fun mode =>
      h.of_eq (s := s) rfl rfl rfl rfl rfl rfl rfl rfl hs
    obtain heq | ⟨mode, heq | heq⟩ := filterSchedule_cases source code s
    · rw [heq]; exact hs
    · rw [heq]; exact hmode mode
    · rw [heq]; exact h.setTarget _ (hmode mode)
  residencyReached s _ hs := h.headStep (.residencyReached s) hs
  takeOrder o s _ hs := by
    obtain heq | ⟨haccepts, -, -, heq⟩ := takeOrder_cases o s
    · rw [heq]; exact hs
    · have hnot : s.role.isHead = false := by cases hr : s.role <;> simp_all [Role.acceptsOrders, Role.isHead]
      rw [heq]
      exact .of_none (by simpa using hs.zone_eq_none hnot) (by simp [acceptOrder_role, Role.isHead])
  orderTimedOut s _ hs := by
    obtain heq | ⟨hrole, heq⟩ := orderTimedOut_cases s
    · rw [heq]; exact hs
    · have hnot : s.role.isHead = false := by obtain h | h := hrole <;> simp [h, Role.isHead]
      rw [heq]
      exact .of_none (by simpa using hs.zone_eq_none hnot) (by simp [enterOrphan, Role.isHead])
  localRoundEnded s _ hs := by
    obtain heq | ⟨hrole, heq⟩ := localRoundEnded_cases s
    · rw [heq]; exact hs
    · have hnot : s.role.isHead = false := by cases hr : s.role <;> simp_all [Role.isLocal, Role.isHead]
      rw [heq]
      exact .of_none (hs.zone_eq_none hnot) hnot
  contactAsserted := h.contactAsserted
  contactReleased s _ hs := h.of_eq (s := s) rfl rfl rfl rfl rfl rfl rfl rfl hs
  holdEnded s _ hs := by
    have hended : RecordHas Z { s with cell := { s.cell with occupied := false, hold := .stopped } } :=
      h.of_eq (s := s) rfl rfl rfl rfl rfl rfl rfl rfl hs
    obtain heq | ⟨n, -, heq | heq⟩ := holdEnded_cases s
    · rw [heq]; exact hs
    · rw [heq]; exact hended
    · rw [heq]; exact h.setTarget _ hended
  readSensor r s _ hs := by
    rw [readSensor_eq]
    exact h.of_eq (s := s) rfl rfl rfl rfl rfl rfl rfl rfl hs
  keyPressed := h.keyPressed

/-- Such a property is kept by the Edge Monitor and the Churn Monitor: a label change discards the record, and MUTE has none. -/
theorem labelsKeep : LabelsKeep (RecordHas Z) where
  edges s edges churn ties hs := h.of_eq (s := s) rfl rfl rfl rfl rfl rfl rfl rfl hs
  queueMark s _ hs := h.of_eq (s := s) rfl rfl rfl rfl rfl rfl rfl rfl hs
  adoptEpoch epoch s _ hs := by
    unfold Machine.adoptEpoch
    by_cases hrole : s.role = .mute
    · rw [labelChange_of_mute _ hrole]
      have hnot : s.role.isHead = false := by simp [hrole, Role.isHead]
      exact .of_none (by simpa using hs.zone_eq_none hnot) (by simpa using hnot)
    · rw [labelChange_of_not_mute _ hrole]
      exact .of_none rfl rfl

/-- Such a property is kept by the Floor Line Interface. -/
theorem blindToLine : BlindToLine (RecordHas Z) where
  slotsLine s _ _ hs := h.of_eq (s := s) rfl rfl rfl rfl rfl rfl rfl rfl hs
  enterMute s _ hs := by
    obtain ⟨-, heq⟩ | ⟨-, heq⟩ := enterMute_cases s
    · rw [heq]; exact hs
    · rw [heq]; exact .of_none (by simp) (by simp [Role.isHead])
  flightEnd s _ hs := by
    obtain ⟨_, _, _, hcell, -⟩ := flightEnd_cell s
    exact h.of_eq (by simp) (by simp) (by simp) (by simp) (by rw [hcell]) (by rw [hcell]) (by rw [hcell]) (by rw [hcell]) hs

/-- Such a property holds at rest and after every start, where there is no record. -/
theorem blindToPort : BlindToPort (RecordHas Z) where
  port s _ _ hs := h.of_eq (s := s) rfl rfl rfl rfl rfl rfl rfl rfl hs
  outputs s _ _ _ hs := h.of_eq (s := s) rfl rfl rfl rfl rfl rfl rfl rfl hs
  rest role _ _ _ _ _ hrest := .of_none rfl (by cases role <;> simp_all [restState, Role.operating, Role.isHead])
  start inputs s := by
    rw [startOperating_eq]
    exact .of_none rfl rfl

/-- Every command keeps such a property. -/
theorem exec {c : Instr} {s t : State} (hs : RecordHas Z s) (heq : exec c s = .next t) : RecordHas Z t :=
  exec_keeps h.labelsKeep.edgesKeep h.blocksKeep h.blindToLine.lineKeeps h.blindToPort.storeKeeps hs heq

/-- Every step keeps such a property when one bit time keeps it. -/
theorem step (htick : ∀ s z, Z s z → Z s (tickZone z)) {s t : State} (hs : RecordHas Z s)
    (heq : step s = .next t) : RecordHas Z t := by
  have htime : ∀ u, RecordHas Z u → RecordHas Z (advance u) := by
    intro u hu
    refine ⟨by simpa [advance] using hu.1, fun z hz => ?_⟩
    obtain ⟨z', hz', rfl⟩ : ∃ z', u.zone = some z' ∧ tickZone z' = z := by simpa [advance] using hz
    exact h.congr (s := u) rfl rfl rfl rfl rfl rfl rfl (htick u z' (hu.2 z' hz'))
  exact step_keeps (P := RecordHas Z)
    (fun s _ _ hs => h.of_eq (s := s) rfl rfl rfl rfl rfl rfl rfl rfl hs) htime h.exec hs heq

end RecordKeeps

end Sys2Proof.Machine
end

section
/-! PROOF. The zone record and its roll (R59, R61, R71, R81, R108): the roll stays in its order and its bounds under every write, and
the record's epoch, timers, round and residency fit the role. -/

namespace Sys2Proof.Machine

/-! ### The roll -/

/-- The roll is in order and in its bounds for a role: at most 250 entries, at most 249 before the birth, and in HEAD_RUN the head's
own among them (R61, log 20). -/
def RollFits (role : Role) (own : Station) (roll : List Entry) : Prop :=
  RollSorted roll ∧ roll.length ≤ 250 ∧ (role = .headGather → roll.length ≤ 249) ∧ (role = .headRun → rollHas own roll = true)

/-- An entry taken under a limit is written, and the roll stays within the limit (R61). -/
theorem rollTake_some {limit : Nat} {new : Entry} {roll taken : List Entry} (hsorted : RollSorted roll)
    (hlen : roll.length ≤ limit) (h : rollTake limit new roll = some taken) :
    taken = rollWrite new roll ∧ taken.length ≤ limit := by
  unfold rollTake at h
  split at h
  · rename_i hroom
    obtain rfl := Option.some.inj h
    refine ⟨rfl, ?_⟩
    rw [rollWrite_length hsorted]
    split
    · exact hlen
    · rename_i hnew
      have hlt := hroom.resolve_left hnew
      omega
  · cases h

/-- Every write of a head without an ORDER keeps the roll in order and bounds. -/
theorem rollFits_written {s : State} {z z' : Zone} (h : RecordWrite s z z') (hz : RollFits s.role s.params.own z.roll) :
    RollFits s.role s.params.own z'.roll := by
  obtain ⟨hsorted, hlen, hgather, hown⟩ := hz
  cases h with
  | adjust => exact ⟨hsorted, hlen, hgather, hown⟩
  | preset => exact ⟨hsorted, hlen, hgather, hown⟩
  | residencyMet => exact ⟨hsorted, hlen, hgather, hown⟩
  | gathered source t roll hrole htake =>
    obtain ⟨rfl, hroom⟩ := rollTake_some hsorted (hgather hrole) htake
    exact ⟨rollWrite_sorted hsorted, Nat.le_succ_of_le hroom, fun _ => hroom, fun hrun => absurd (hrole.symm.trans hrun) (by decide)⟩
  | entered source t roll hrole htake =>
    obtain ⟨rfl, hroom⟩ := rollTake_some hsorted hlen htake
    exact ⟨rollWrite_sorted hsorted, hroom, fun hg => absurd (hrole.symm.trans hg) (by decide),
      fun _ => rollHas_of_rollWrite (hown hrole)⟩
  | ownMarked hrole =>
    have hcell : ∀ e : Entry, (if e.cell = s.params.own then { e with occupied := true, marked := true } else e).cell = e.cell :=
      fun e => by split <;> rfl
    refine ⟨mapRoll_sorted hcell hsorted, ?_, fun hg => ?_, fun _ => ?_⟩
    · simpa [markOwn] using hlen
    · simpa [markOwn] using hgather hg
    · exact (rollHas_map hcell s.params.own).trans (hown hrole)

/-- The roll that a closed round leaves (R70): never longer than before, with the head's own entry in it. -/
theorem rollFits_closed {s : State} {z : Zone} (hrole : s.role = .headRun) (hz : RollFits s.role s.params.own z.roll) :
    RollFits s.role s.params.own (closedRoll s z) := by
  obtain ⟨hsorted, hlen, -, hown⟩ := hz
  have hhas : rollHas (ownEntry s).cell z.roll = true := hown hrole
  have hwritten : (rollWrite (ownEntry s) z.roll).length = z.roll.length := by rw [rollWrite_length hsorted, if_pos hhas]
  refine ⟨ageRoll_sorted (rollWrite_sorted hsorted), ?_, fun hg => absurd (hrole.symm.trans hg) (by decide),
    fun _ => rollHas_aged (new := ownEntry s) z.roll rfl⟩
  have haged : (closedRoll s z).length ≤ (rollWrite (ownEntry s) z.roll).length := ageRoll_length _
  omega

/-- Every write of a head with an ORDER keeps the roll in order and bounds. -/
theorem rollFits_ordered {s : State} {z z' : Zone} (h : RecordOrder s z z') (hz : RollFits s.role s.params.own z.roll) :
    RollFits s.role s.params.own z'.roll := by
  cases h with
  | occupied z' _ hwrite _ =>
    have hroll : RollFits s.role s.params.own z'.roll := rollFits_written hwrite hz
    exact hroll
  | moved => exact hz
  | preset => exact hz
  | closed hrole => exact rollFits_closed hrole hz

/-- The birth writes the head's own entry into at most 249 others (R61, R67). -/
theorem rollFits_born {s : State} {z : Zone} (hrole : s.role = .headGather) (hz : RollFits s.role s.params.own z.roll) :
    RollFits .headRun s.params.own (birthRoll s z) := by
  obtain ⟨hsorted, -, hgather, -⟩ := hz
  have hcell : ∀ e : Entry, ({ e with freshness := .fresh, marked := false } : Entry).cell = e.cell := fun _ => rfl
  refine ⟨mapRoll_sorted hcell (rollWrite_sorted hsorted), ?_, fun h => absurd h (by decide), fun _ => ?_⟩
  · have hlen := hgather hrole
    rw [birthRoll, List.length_map, rollWrite_length hsorted]
    split <;> omega
  · exact (rollHas_map hcell s.params.own).trans (rollHas_rollWrite (ownEntry s) z.roll)

/-! ### The record -/

/-- The record belongs to the label of a cell that is its own root, runs the timer and holds the round of the role, and its
residency is stopped exactly while the zone is VACANT (R59, R71, R108). -/
def RecordFits (s : State) (z : Zone) : Prop :=
  z.epoch = s.label.epoch ∧ s.label.root = s.params.own
  ∧ (z.gather.isSome = true ↔ s.role = .headGather) ∧ (z.roundTimer.isSome = true ↔ s.role = .headRun)
  ∧ (z.round = 0 ↔ s.role = .headGather) ∧ (z.occupancy = .vacant ↔ z.residency = .stopped)

/-- A started residency is not stopped (R108). -/
theorem startResidency_ne_stopped (p : Params) : startResidency p ≠ .stopped := by
  unfold startResidency
  split <;> simp

/-- A zone that turns OCCUPIED starts its residency. -/
theorem recordFits_turnOccupied {s : State} {z : Zone} (mode : FloorMode) (h : RecordFits s z) :
    RecordFits s (turnOccupied s.params mode z) := by
  obtain ⟨hepoch, hroot, hgather, hround, hzero, -⟩ := h
  exact ⟨hepoch, hroot, hgather, hround, hzero, by simp [turnOccupied, startResidency_ne_stopped]⟩

theorem recordFits_written {s : State} {z z' : Zone} (h : RecordWrite s z z') (hz : RecordFits s z) : RecordFits s z' := by
  cases h with
  | adjust => exact hz
  | preset => exact hz
  | gathered => exact hz
  | entered => exact hz
  | ownMarked => exact hz
  | residencyMet n hcounting =>
    obtain ⟨hepoch, hroot, hgather, hround, hzero, hresidency⟩ := hz
    exact ⟨hepoch, hroot, hgather, hround, hzero, by simp [hresidency, hcounting]⟩

/-- The occupancy and the residency that a closed round decides fit each other (R109, R110). -/
theorem closeOccupancy_fits (p : Params) (roll : List Entry) {z : Zone} (h : z.occupancy = .vacant ↔ z.residency = .stopped) :
    (closeOccupancy p roll z).1 = .vacant ↔ (closeOccupancy p roll z).2 = .stopped := by
  unfold closeOccupancy
  split
  · simp [startResidency_ne_stopped]
  · simpa [*] using h
  · simpa [*] using h
  · split
    · simp
    · simpa [*] using h

/-- The round after a round is never 0 (R71). -/
theorem nextRound_ne_zero (r : BitVec 8) : nextRound r ≠ 0 := by
  unfold nextRound
  split
  · decide
  · bv_omega

theorem recordFits_ordered {s : State} {z z' : Zone} (h : RecordOrder s z z') (hz : RecordFits s z) : RecordFits s z' := by
  cases h with
  | occupied z' _ hwrite _ => exact recordFits_turnOccupied _ (recordFits_written hwrite hz)
  | moved => exact hz
  | preset => exact hz
  | closed hrole =>
    obtain ⟨hepoch, hroot, hgather, -, -, hresidency⟩ := hz
    exact ⟨hepoch, hroot, hgather, by simp [closedZone, hrole], 
      ⟨fun hzero => absurd hzero (nextRound_ne_zero z.round), fun hg => absurd (hrole.symm.trans hg) (by decide)⟩,
      closeOccupancy_fits s.params (closedRoll s z) hresidency⟩

/-- Record and roll fit the state. -/
def ZoneFits (s : State) (z : Zone) : Prop := RecordFits s z ∧ RollFits s.role s.params.own z.roll

theorem zoneFits_keeps : RecordKeeps ZoneFits where
  congr hrole hlabel hparams _ _ _ _ hz := by
    simp only [ZoneFits, RecordFits, hrole, hlabel, hparams]
    exact hz
  created s _ hroot := by
    rw [enterHeadGather_eq]
    exact ⟨⟨rfl, hroot, by simp [newZone], by simp [newZone], by simp [newZone], by simp [newZone]⟩,
      by simp [RollFits, RollSorted, newZone]⟩
  born s z _ hrole hz := by
    obtain ⟨⟨hepoch, hroot, -⟩, hroll⟩ := hz
    refine ⟨⟨by simpa [bornZone] using hepoch, by simpa using hroot, by simp [bornZone], by simp [bornZone], by simp [bornZone], ?_⟩,
      by simpa [bornZone] using rollFits_born hrole hroll⟩
    simp only [bornZone]
    cases rollOccupancy (birthRoll s z) <;> simp [startResidency_ne_stopped]
  written s z z' hwrite hz := ⟨recordFits_written hwrite hz.1, rollFits_written hwrite hz.2⟩
  ordered s z z' horder hz := by
    have hfits : ZoneFits s z' := ⟨recordFits_ordered horder hz.1, rollFits_ordered horder hz.2⟩
    simpa [ZoneFits, RecordFits] using hfits

/-- The two invariants of the record are one property of it. -/
theorem recordHas_zoneFits_iff (s : State) : RecordHas ZoneFits s ↔ s.zoneSound ∧ s.rollSound :=
  ⟨fun h => ⟨⟨h.1, fun z hz => (h.2 z hz).1⟩, ⟨h.1, fun z hz => (h.2 z hz).2⟩⟩,
    fun h => ⟨h.1.1, fun z hz => ⟨h.1.2 z hz, h.2.2 z hz⟩⟩⟩

/-- Settles O12: creation, birth and every write of a head leave record and roll fitting the role, and all else leaves or discards
the record. -/
theorem stepKeepsZoneAndRoll : Obligations.StepKeepsZoneAndRoll := by
  intro s t hzone hroll h
  have htick : ∀ s z, ZoneFits s z → ZoneFits s (tickZone z) := by
    intro s z ⟨⟨hepoch, hroot, hgather, hround, hzero, hresidency⟩, hfits⟩
    refine ⟨⟨hepoch, hroot, by simpa [tickZone] using hgather, by simpa [tickZone] using hround, hzero, ?_⟩, hfits⟩
    cases hr : z.residency <;> simp_all [tickZone]
  rw [← recordHas_zoneFits_iff]
  exact zoneFits_keeps.step htick ((recordHas_zoneFits_iff s).2 ⟨hzone, hroll⟩) h

end Sys2Proof.Machine
end

section
/-! PROOF. A head's own cell and a MEMBER's ORDER (R72, R119, R121, R123). -/

namespace Sys2Proof.Machine

/-! ### The head's own cell -/

/-- The cell holds the ORDER its record gives, and in HEAD_RUN its preferences and last demand are the zone's. -/
def CellFollows (s : State) (z : Zone) : Prop :=
  (s.role = .headGather → s.cell.lastOrder = some (zoneOrder s.params.own .call z))
  ∧ (s.role = .headRun → s.cell.lastOrder = some (zoneOrder s.params.own .control z)
      ∧ s.cell.tempPref = z.setpoint ∧ s.cell.lightPref = z.lightPref ∧ s.cell.lastDemand = z.demand)

/-- A CONTROL ORDER that a head in HEAD_RUN queues makes its cell follow the record. -/
theorem cellFollows_queueOrder {s : State} (z : Zone) (hrole : s.role = .headRun) :
    CellFollows (queueOrder .control z s) z := by
  rw [queueOrder_control_eq]
  exact ⟨fun h => absurd (hrole.symm.trans h) (by decide), fun _ => ⟨rfl, rfl, rfl, rfl⟩⟩

theorem cellFollows_keeps : RecordKeeps CellFollows where
  congr hrole _ hparams horder htemp hlight hdemand hz := by
    simp only [CellFollows, hrole, hparams, horder, htemp, hlight, hdemand]
    exact hz
  created s _ _ := by
    rw [enterHeadGather_eq]
    exact ⟨fun _ => rfl, fun h => by cases h⟩
  born s z _ _ _ := cellFollows_queueOrder _ rfl
  written s z z' hwrite hz := by
    cases hwrite <;> exact hz
  ordered s z z' horder _ := by
    refine cellFollows_queueOrder z' ?_
    cases horder <;> assumption

/-! ### A MEMBER's ORDER -/

/-- The property of a MEMBER passes between two states of one last ORDER and one label, unless the later one is a MEMBER alone. -/
theorem memberFollows_of_eq {s t : State} (hrole : t.role = .member → s.role = .member)
    (horder : t.cell.lastOrder = s.cell.lastOrder) (hlabel : t.label = s.label) (h : s.memberFollows) : t.memberFollows := by
  intro hmember
  rw [horder, hlabel]
  exact h (hrole hmember)

/-- A state of another role has the property. -/
theorem memberFollows_of_ne {t : State} (hrole : t.role ≠ .member) : t.memberFollows := fun h => absurd h hrole

/-- A clamped ORDER lies in its ranges (R120). -/
theorem clamped_inRange (o : Order) : o.clamped.inRange :=
  ⟨clampSetpoint_within _, clampLightPref_within _, clamp_within (by decide) _, clampDemand_within _⟩

/-- A head's step leaves a MEMBER as it is: its ORDERs are of HEAD_RUN. -/
theorem memberFollows_headStep {s t : State} (hstep : HeadStep s t) (hs : s.memberFollows) : t.memberFollows := by
  cases hstep with
  | rest => exact hs
  | written => exact hs
  | ordered z z' _ horder =>
    refine memberFollows_of_ne ?_
    have hrole : s.role = .headRun := by cases horder <;> assumption
    simp [hrole]

/-- An accepted ORDER is the last ORDER, of the cell's own label (R119, R120). -/
theorem memberFollows_acceptOrder {o : Order} {s : State} (hepoch : o.epoch = s.label.epoch) (hsource : o.source = s.label.root) :
    (acceptOrder o s).memberFollows := by
  intro _
  have horder : (acceptOrder o s).cell.lastOrder = some o.clamped := by
    obtain ⟨slots, light, answered, -, -, ⟨-, heq⟩ | ⟨-, heq⟩⟩ := acceptOrder_cases o s
    · rw [heq]; exact storedCell_lastOrder _ _ _
    · obtain ⟨_, _, hcell, -⟩ := offerNudge_cell { s with
        slots := slots, light := light, role := .member, quiet := none,
        cell := { storedCell s.params o.clamped s.cell with
          lastAnswered := answered, orderTimer := some (3 * seconds s.params.control), localRound := none } }
      rw [heq, hcell]; exact storedCell_lastOrder _ _ _
  rw [horder]
  refine ⟨rfl, fun o' ho' => ?_⟩
  obtain rfl := Option.some.inj ho'
  simpa using ⟨hepoch, hsource, clamped_inRange o⟩

theorem memberFollows_setTarget {s : State} (t : Int) (hs : s.memberFollows) : (setTarget t s).memberFollows := by
  rw [setTarget_eq]
  exact hs

theorem memberFollows_keyPressed (key : Key) : KeptBy State.memberFollows (keyPressed key) := by
  intro s hop hs
  obtain ⟨-, heq⟩ | ⟨-, heq⟩ | ⟨-, hstep⟩ | ⟨-, heq⟩ := keyPressed_cases key hop
  · rw [heq]; exact hs
  · obtain ⟨_, _, hcell, -⟩ := offerNudge_cell (addToNudge (keyStep key) s)
    rw [heq]
    exact memberFollows_of_eq (s := s) (by simp) (by rw [hcell]; rfl) (by simp) hs
  · exact memberFollows_headStep hstep hs
  · rw [heq]
    obtain heq' | heq' := pressLocal_cases (keyStep key) s
    · rw [heq']; exact hs
    · rw [heq']; exact memberFollows_setTarget _ hs

theorem memberFollows_contactAsserted : KeptBy State.memberFollows contactAsserted := by
  intro s _ hs
  obtain ⟨t, light, ht, heq, -⟩ := contactAsserted_cases s
  rw [heq]
  obtain rfl | ⟨slots, -, rfl⟩ | ⟨-, hstep⟩ := ht
  · exact hs
  · exact hs
  · exact memberFollows_headStep (s := occupiedState s) (t := t) hstep hs

theorem memberFollows_blocksKeep : BlocksKeep State.memberFollows where
  quietEnded s _ hs := by
    obtain heq | ⟨-, -, heq⟩ | ⟨-, -, heq⟩ := quietEnded_cases s
    · rw [heq]; exact hs
    · rw [heq]; exact memberFollows_of_ne (by simp [enterHeadGather])
    · rw [heq]; exact memberFollows_of_ne (by simp [enterAwait])
  gatherEnded s _ hs := by
    obtain heq | ⟨z, -, -, heq⟩ := gatherEnded_cases s
    · rw [heq]; exact hs
    · rw [heq]; exact memberFollows_of_ne (by simp)
  roundClosed s _ hs := memberFollows_headStep (.roundClosed s) hs
  headTally source t s _ hs := memberFollows_headStep (.headTally source t s) hs
  headNudge n s _ hs := memberFollows_headStep (.headNudge n s) hs
  filterPreset source p s _ hs := memberFollows_headStep (.filterPreset source p s) hs
  filterSchedule source code s _ hs := by
    obtain heq | ⟨mode, heq | heq⟩ := filterSchedule_cases source code s
    · rw [heq]; exact hs
    · rw [heq]; exact hs
    · rw [heq]; exact memberFollows_setTarget _ hs
  residencyReached s _ hs := memberFollows_headStep (.residencyReached s) hs
  takeOrder o s _ hs := by
    obtain heq | ⟨-, hepoch, hsource, heq⟩ := takeOrder_cases o s
    · rw [heq]; exact hs
    · rw [heq]; exact memberFollows_acceptOrder hepoch hsource
  orderTimedOut s _ hs := by
    obtain heq | ⟨-, heq⟩ := orderTimedOut_cases s
    · rw [heq]; exact hs
    · rw [heq]; exact memberFollows_of_ne (by simp [enterOrphan])
  localRoundEnded s _ hs := by
    obtain heq | ⟨-, heq⟩ := localRoundEnded_cases s
    · rw [heq]; exact hs
    · rw [heq]; exact hs
  contactAsserted := memberFollows_contactAsserted
  contactReleased _ _ hs := hs
  holdEnded s _ hs := by
    obtain heq | ⟨n, -, heq | heq⟩ := holdEnded_cases s
    · rw [heq]; exact hs
    · rw [heq]; exact hs
    · rw [heq]; exact memberFollows_setTarget _ hs
  readSensor r s _ hs := by rw [readSensor_eq]; exact hs
  keyPressed := memberFollows_keyPressed

theorem memberFollows_labelsKeep : LabelsKeep State.memberFollows where
  edges _ _ _ _ hs := hs
  queueMark _ _ hs := hs
  adoptEpoch epoch s _ _ := by
    refine memberFollows_of_ne ?_
    rw [adoptEpoch, labelChange_role]
    split <;> simp

theorem memberFollows_blindToLine : BlindToLine State.memberFollows where
  slotsLine _ _ _ hs := hs
  enterMute s _ hs := by
    obtain ⟨-, heq⟩ | ⟨-, heq⟩ := enterMute_cases s
    · rw [heq]; exact hs
    · rw [heq]; exact memberFollows_of_ne (by simp)
  flightEnd s _ hs := by
    obtain ⟨_, _, _, hcell, -⟩ := flightEnd_cell s
    exact memberFollows_of_eq (by simp) (by rw [hcell]) (by simp) hs

theorem memberFollows_blindToPort : BlindToPort State.memberFollows where
  port _ _ _ hs := hs
  outputs _ _ _ _ hs := hs
  rest role _ _ _ _ _ hrest := memberFollows_of_ne (by cases role <;> simp_all [restState, Role.operating])
  start inputs s := by
    rw [startOperating_eq]
    exact memberFollows_of_ne (by simp [startState])

/-- Settles O13: a head stores in its own cell every ORDER it queues, and a cell becomes MEMBER with an ORDER of its label alone. -/
theorem stepKeepsHeadAndMemberOrders : Obligations.StepKeepsHeadAndMemberOrders := by
  intro s t hhead hmember h
  have htick : ∀ s z, CellFollows s z → CellFollows s (tickZone z) := fun _ _ hz => hz
  exact ⟨cellFollows_keeps.step htick (s := s) hhead h,
    step_keeps (P := State.memberFollows) (fun _ _ _ hs => hs) (fun _ hs => hs)
      (exec_keeps memberFollows_labelsKeep.edgesKeep memberFollows_blocksKeep memberFollows_blindToLine.lineKeeps
        memberFollows_blindToPort.storeKeeps) hmember h⟩

end Sys2Proof.Machine
end

section
/-! PROOF. The internal selection (R155, R156, R159): slot by slot the selection holds the best frame of the slots taken in so far. -/

namespace Sys2Proof.Machine

/-- A frame's rank in one slot is ahead of another's: a lower class, then a greater age, then the earlier slot (R156). -/
def Ahead (id : SlotId) (r : Nat × Nat) (id' : SlotId) (r' : Nat × Nat) : Prop :=
  r.1 < r'.1 ∨ r.1 = r'.1 ∧ (r'.2 < r.2 ∨ r'.2 = r.2 ∧ slotBaseClass id ≤ slotBaseClass id')

/-- The best of the slots taken in so far: none where none holds a WAITING frame, else the frame that is ahead of all. -/
def Leads (sl : Slots) (ids : List SlotId) : Option (SlotId × Nat × Nat) → Prop
  | none => ∀ id ∈ ids, slotRank sl id = none
  | some (id, r) => id ∈ ids ∧ slotRank sl id = some r ∧ ∀ id' ∈ ids, ∀ r', slotRank sl id' = some r' → Ahead id r id' r'

theorem ahead_refl (id : SlotId) (r : Nat × Nat) : Ahead id r id r := .inr ⟨rfl, .inr ⟨rfl, le_rfl⟩⟩

/-- What outranks a frame is ahead of all that this frame is ahead of. -/
theorem Ahead.of_outranks {id id1 id2 : SlotId} {r r1 r2 : Nat × Nat} (h : outranks r r1 = true) (h1 : Ahead id1 r1 id2 r2) :
    Ahead id r id2 r2 := by
  simp only [outranks, decide_eq_true_eq] at h
  unfold Ahead at *
  omega

/-- What is not outranked by a later slot's frame is ahead of it. -/
theorem Ahead.of_not_outranks {id id1 : SlotId} {r r1 : Nat × Nat} (h : outranks r1 r = false)
    (hlater : slotBaseClass id ≤ slotBaseClass id1) : Ahead id r id1 r1 := by
  simp only [outranks, decide_eq_false_iff_not] at h
  unfold Ahead
  omega

/-- One more slot, later in the order, taken into the selection. -/
theorem leads_selectNext {sl : Slots} {ids : List SlotId} {best : Option (SlotId × Nat × Nat)} (h : Leads sl ids best)
    {id : SlotId} (hlater : ∀ id' ∈ ids, slotBaseClass id' ≤ slotBaseClass id) :
    Leads sl (ids ++ [id]) (selectNext sl best id) := by
  unfold selectNext
  cases hrank : slotRank sl id with
  | none =>
    cases best with
    | none =>
      intro id' hid'
      obtain hid' | hid' := List.mem_append.1 hid'
      · exact h id' hid'
      · rw [List.mem_singleton.1 hid']; exact hrank
    | some b =>
      obtain ⟨hmem, hb, hahead⟩ := h
      refine ⟨List.mem_append_left _ hmem, hb, fun id' hid' r' hr' => ?_⟩
      obtain hid' | hid' := List.mem_append.1 hid'
      · exact hahead id' hid' r' hr'
      · rw [List.mem_singleton.1 hid', hrank] at hr'; cases hr'
  | some r =>
    cases best with
    | none =>
      refine ⟨by simp, hrank, fun id' hid' r' hr' => ?_⟩
      obtain hid' | hid' := List.mem_append.1 hid'
      · rw [h id' hid'] at hr'; cases hr'
      · obtain rfl := List.mem_singleton.1 hid'
        obtain rfl := Option.some.inj (hrank.symm.trans hr')
        exact ahead_refl _ _
    | some b =>
      obtain ⟨hmem, hb, hahead⟩ := h
      dsimp only
      split
      · rename_i hout
        refine ⟨by simp, hrank, fun id' hid' r' hr' => ?_⟩
        obtain hid' | hid' := List.mem_append.1 hid'
        · exact (hahead id' hid' r' hr').of_outranks hout
        · obtain rfl := List.mem_singleton.1 hid'
          obtain rfl := Option.some.inj (hrank.symm.trans hr')
          exact ahead_refl _ _
      · rename_i hout
        refine ⟨List.mem_append_left _ hmem, hb, fun id' hid' r' hr' => ?_⟩
        obtain hid' | hid' := List.mem_append.1 hid'
        · exact hahead id' hid' r' hr'
        · obtain rfl := List.mem_singleton.1 hid'
          obtain rfl := Option.some.inj (hrank.symm.trans hr')
          exact .of_not_outranks (by simpa using hout) (hlater _ hmem)

/-- The four slots in the order of the selection. -/
def selectionOrder : List SlotId := [.order, .mark, .nudge, .tally]

theorem mem_selectionOrder (id : SlotId) : id ∈ selectionOrder := by
  cases id <;> decide

/-- The selection leads all four slots. -/
theorem leads_selectSlot (sl : Slots) : Leads sl selectionOrder (selectSlot sl) := by
  have h0 : Leads sl [] none := fun id hid => by cases hid
  have h1 := leads_selectNext (id := .order) h0 (by decide)
  have h2 := leads_selectNext (id := .mark) h1 (by decide)
  have h3 := leads_selectNext (id := .nudge) h2 (by decide)
  exact leads_selectNext (id := .tally) h3 (by decide)

/-- A selected frame stands in its slot with the rank it was selected by. -/
theorem slotRank_of_selectSlot {sl : Slots} {id : SlotId} {r : Nat × Nat} (h : selectSlot sl = some (id, r)) :
    slotRank sl id = some r := by
  have hleads := leads_selectSlot sl
  rw [h] at hleads
  exact hleads.2.1

/-- The rank of a held frame: nothing while it is IN_ATTEMPT, else its class and its age. -/
theorem waitingRank_some {α : Type} (base : Nat) (f : Held α) :
    waitingRank base (some f) = if f.inAttempt then none else some (currentClass base f, f.age) := rfl

/-- Settles O26: the selection leads all four slots, and ranks are read slot by slot. -/
theorem selectionTakesTheBestFrame : Obligations.SelectionTakesTheBestFrame := by
  refine ⟨fun sl id cls age h => ⟨slotRank_of_selectSlot h, fun id' cls' age' hr' => ?_⟩, fun sl => ⟨fun h id => ?_, fun h => ?_⟩,
    fun sl => ⟨rfl, rfl, rfl, rfl⟩, fun α base f => ⟨rfl, fun h => ?_, fun h => ?_, fun h => ?_, fun h => ?_⟩⟩
  · have hleads := leads_selectSlot sl
    rw [h] at hleads
    exact hleads.2.2 id' (mem_selectionOrder id') _ hr'
  · have hleads := leads_selectSlot sl
    rw [h] at hleads
    exact hleads id (mem_selectionOrder id)
  · cases hbest : selectSlot sl with
    | none => rfl
    | some b =>
      have hrank := slotRank_of_selectSlot (id := b.1) (r := b.2) hbest
      rw [h] at hrank
      cases hrank
  · simp [waitingRank_some, h]
  · simp [waitingRank_some, h]
  · simp [currentClass, h]
  · simp [currentClass, h, Config.promotionStep]

end Sys2Proof.Machine
end

section
/-! PROOF. Slots, attempt, MUTE flag and backoff generator (R149, R154 to R156, R160). -/

namespace Sys2Proof.Machine

/-! ### One slot -/

/-- The slot's frame is IN_ATTEMPT exactly as told, and its counts lie in their ranges. -/
def SlotFits {α : Type} (attempted : Bool) (f : Slot α) : Prop := slotInAttempt f = attempted ∧ heldInRange f

/-- Content handed to a slot leaves its frame IN_ATTEMPT or not, and its counts. -/
theorem SlotFits.handSlot {α : Type} {attempted : Bool} {f : Slot α} (x : α) (h : SlotFits attempted f) :
    SlotFits attempted (handSlot x f) := by
  refine ⟨(slotBusy_handSlot x f).trans h.1, fun g hg => ?_⟩
  obtain ⟨-, rfl⟩ | ⟨g', hf, hlosses, hretries, -⟩ := handSlot_counts hg
  · exact ⟨Nat.zero_le _, Nat.zero_le _⟩
  · rw [hlosses, hretries]
    exact h.2 g' hf

theorem SlotFits.of_handed {α : Type} {attempted : Bool} {f g : Slot α} (hhanded : g = f ∨ ∃ x, g = Machine.handSlot x f)
    (h : SlotFits attempted f) : SlotFits attempted g := by
  obtain rfl | ⟨x, rfl⟩ := hhanded
  · exact h
  · exact h.handSlot x

theorem heldInRange_loseSlot {α : Type} {f : Slot α} (h : heldInRange f) : heldInRange (loseSlot f) := by
  cases f with
  | none => exact h
  | some g =>
    rintro _ ⟨⟩
    have hg := h g rfl
    simp only [takeNewer_fields]
    omega

theorem heldInRange_retrySlot {α : Type} {f : Slot α} (h : heldInRange f) (hfew : slotRetries f < 3) :
    heldInRange (retrySlot f) := by
  cases f with
  | none => exact h
  | some g =>
    rintro _ ⟨⟩
    have hretries : g.retries < 3 := hfew
    simp only [takeNewer_fields]
    omega

theorem heldInRange_leaveSlot {α : Type} (f : Slot α) : heldInRange (leaveSlot f) := by
  cases f with
  | none => intro g hg; cases hg
  | some f =>
    intro g hg
    obtain ⟨x, -, rfl⟩ : ∃ x, f.newer = some x ∧ freshFrame x = g := by simpa [leaveSlot] using hg
    exact ⟨Nat.zero_le _, Nat.zero_le _⟩

theorem heldInRange_muteSlot {α : Type} {f : Slot α} (h : heldInRange f) : heldInRange (muteSlot f) := by
  cases f with
  | none => exact h
  | some g =>
    rintro _ ⟨⟩
    exact ⟨Nat.zero_le _, (h g rfl).2⟩

theorem SlotFits.beginSlot {α : Type} {attempted : Bool} {f : Slot α} (hsome : f.isSome = true) (h : SlotFits attempted f) :
    SlotFits true (beginSlot f) := by
  cases f with
  | none => cases hsome
  | some g =>
    refine ⟨rfl, ?_⟩
    rintro _ ⟨⟩
    exact h.2 g rfl

theorem SlotFits.promoteSlot {α : Type} {attempted : Bool} {f : Slot α} (h : SlotFits attempted f) :
    SlotFits attempted (promoteSlot f) := by
  cases f with
  | none => exact h
  | some g =>
    refine ⟨h.1, ?_⟩
    rintro _ ⟨⟩
    exact h.2 g rfl

theorem SlotFits.ageSlot {α : Type} {attempted : Bool} {f : Slot α} (h : SlotFits attempted f) :
    SlotFits attempted (ageSlot f) := by
  cases f with
  | none => exact h
  | some g =>
    refine ⟨h.1, ?_⟩
    rintro _ ⟨⟩
    exact h.2 g rfl

/-! ### The four slots -/

/-- Exactly the slot of the attempt, if there is one, is IN_ATTEMPT, and all counts lie in their ranges. -/
def SlotsFit (attempt : Option SlotId) (sl : Slots) : Prop :=
  SlotFits (decide (attempt = some .order)) sl.order ∧ SlotFits (decide (attempt = some .mark)) sl.mark
  ∧ SlotFits (decide (attempt = some .nudge)) sl.nudge ∧ SlotFits (decide (attempt = some .tally)) sl.tally

theorem SlotsFit.of_handed {attempt : Option SlotId} {a b : Slots} (hhanded : SlotsHanded a b) (h : SlotsFit attempt a) :
    SlotsFit attempt b :=
  ⟨h.1.of_handed hhanded.order, h.2.1.of_handed hhanded.mark, h.2.2.1.of_handed hhanded.nudge,
    h.2.2.2.of_handed hhanded.tally⟩

/-- The end of an attempt: a change of its slot that leaves nothing IN_ATTEMPT and the counts in range. -/
theorem SlotsFit.ended {id : SlotId} {sl : Slots} {f : {α : Type} → Slot α → Slot α} {fits : Nat → Prop}
    (hidle : ∀ {α : Type} (x : Slot α), slotInAttempt (f x) = false)
    (hrange : ∀ {α : Type} (x : Slot α), fits (slotRetries x) → heldInRange x → heldInRange (f x))
    (hfits : fits (readSlot slotRetries id sl)) (h : SlotsFit (some id) sl) : SlotsFit none (mapSlot f id sl) := by
  obtain ⟨ho, hm, hn, ht⟩ := h
  cases id with
  | order => exact ⟨⟨hidle _, hrange _ hfits ho.2⟩, by simpa [mapSlot] using hm, by simpa [mapSlot] using hn, by simpa [mapSlot] using ht⟩
  | mark => exact ⟨by simpa [mapSlot] using ho, ⟨hidle _, hrange _ hfits hm.2⟩, by simpa [mapSlot] using hn, by simpa [mapSlot] using ht⟩
  | nudge => exact ⟨by simpa [mapSlot] using ho, by simpa [mapSlot] using hm, ⟨hidle _, hrange _ hfits hn.2⟩, by simpa [mapSlot] using ht⟩
  | tally => exact ⟨by simpa [mapSlot] using ho, by simpa [mapSlot] using hm, by simpa [mapSlot] using hn, ⟨hidle _, hrange _ hfits ht.2⟩⟩

/-- The slot of a rank holds a frame. -/
theorem isSome_of_slotRank {sl : Slots} {id : SlotId} {r : Nat × Nat} (h : slotRank sl id = some r) :
    readSlot (fun f => f.isSome) id sl = true := by
  have hheld : ∀ {α : Type} (base : Nat) (f : Slot α), waitingRank base f = some r → f.isSome = true := by
    intro α base f hf
    cases f with
    | none => cases hf
    | some _ => rfl
  cases id <;> exact hheld _ _ h

/-- The begin of an attempt on a slot that holds a frame (R156). -/
theorem SlotsFit.begun {id : SlotId} {sl : Slots} (hsome : readSlot (fun f => f.isSome) id sl = true) (h : SlotsFit none sl) :
    SlotsFit (some id) (mapSlot beginSlot id sl) := by
  obtain ⟨ho, hm, hn, ht⟩ := h
  cases id with
  | order => exact ⟨ho.beginSlot hsome, by simpa [mapSlot] using hm, by simpa [mapSlot] using hn, by simpa [mapSlot] using ht⟩
  | mark => exact ⟨by simpa [mapSlot] using ho, hm.beginSlot hsome, by simpa [mapSlot] using hn, by simpa [mapSlot] using ht⟩
  | nudge => exact ⟨by simpa [mapSlot] using ho, by simpa [mapSlot] using hm, hn.beginSlot hsome, by simpa [mapSlot] using ht⟩
  | tally => exact ⟨by simpa [mapSlot] using ho, by simpa [mapSlot] using hm, by simpa [mapSlot] using hn, ht.beginSlot hsome⟩

theorem SlotsFit.promoted {attempt : Option SlotId} {sl : Slots} (id : SlotId) (h : SlotsFit attempt sl) :
    SlotsFit attempt (mapSlot promoteSlot id sl) := by
  obtain ⟨ho, hm, hn, ht⟩ := h
  cases id with
  | order => exact ⟨ho.promoteSlot, hm, hn, ht⟩
  | mark => exact ⟨ho, hm.promoteSlot, hn, ht⟩
  | nudge => exact ⟨ho, hm, hn.promoteSlot, ht⟩
  | tally => exact ⟨ho, hm, hn, ht.promoteSlot⟩

theorem SlotsFit.aged {attempt : Option SlotId} {sl : Slots} (h : SlotsFit attempt sl) : SlotsFit attempt (mapSlots ageSlot sl) :=
  ⟨h.1.ageSlot, h.2.1.ageSlot, h.2.2.1.ageSlot, h.2.2.2.ageSlot⟩

/-! ### The line -/

/-- The line's own fields fit each other and the role. -/
structure LineFits (s : State) : Prop where
  slots : SlotsFit (s.line.attempt.map Attempt.slot) s.slots
  busy : s.line.attempt.isSome = true → s.line.view = .busy
  mute : s.line.mute = true ↔ s.role = .mute
  noAttempt : s.role = .mute → s.line.attempt = none
  generator : s.role.operating = true → s.line.generator ≠ 0

/-- The three invariants of the line are one property. -/
theorem lineFits_iff (s : State) : LineFits s ↔ s.lineSound ∧ s.slotsInRange ∧ s.generatorSound := by
  constructor
  · rintro ⟨⟨ho, hm, hn, ht⟩, hbusy, hmute, hnone, hgen⟩
    exact ⟨⟨ho.1, hm.1, hn.1, ht.1, hbusy, hmute, hnone⟩, ⟨ho.2, hm.2, hn.2, ht.2⟩, hgen⟩
  · rintro ⟨⟨ho, hm, hn, ht, hbusy, hmute, hnone⟩, ⟨ho', hm', hn', ht'⟩, hgen⟩
    exact ⟨⟨⟨ho, ho'⟩, ⟨hm, hm'⟩, ⟨hn, hn'⟩, ⟨ht, ht'⟩⟩, hbusy, hmute, hnone, hgen⟩

namespace LineFits

/-- Content handed to slots, in a role that is MUTE exactly if it was before, keeps the property. -/
theorem of_handed {s t : State} (hop : s.role.operating = true) (hline : t.line = s.line) (hslots : SlotsHanded s.slots t.slots)
    (hmute : t.role = .mute ↔ s.role = .mute) (h : LineFits s) : LineFits t where
  slots := by rw [hline]; exact h.slots.of_handed hslots
  busy := by rw [hline]; exact h.busy
  mute := by rw [hline, hmute]; exact h.mute
  noAttempt := by rw [hline, hmute]; exact h.noAttempt
  generator _ := by rw [hline]; exact h.generator hop

/-- With the same slots as well. -/
theorem of_same {s t : State} (hop : s.role.operating = true) (hline : t.line = s.line) (hslots : t.slots = s.slots)
    (hmute : t.role = .mute ↔ s.role = .mute) (h : LineFits s) : LineFits t :=
  h.of_handed hop hline (by rw [hslots]; exact .refl _) hmute

theorem headStep {s t : State} (hop : s.role.operating = true) (hstep : HeadStep s t) (h : LineFits s) : LineFits t := by
  cases hstep with
  | rest => exact h
  | written => exact h.of_same (s := s) hop rfl rfl Iff.rfl
  | ordered z z' => exact h.of_handed hop (by simp) (by rw [queueOrder_slots]; exact .handOrder _ _) (by simp)

theorem setTarget {s : State} (t : Int) (hop : s.role.operating = true) (h : LineFits s) : LineFits (setTarget t s) :=
  h.of_same hop (by simp) (by simp) (by simp)

/-- The entry to MUTE outside an attempt sets the flag with the role (R149). -/
theorem enterMute {s : State} (hop : s.role.operating = true) (hidle : s.line.attempt = none) (h : LineFits s) :
    LineFits (enterMute s) := by
  obtain ⟨-, heq⟩ | ⟨-, heq⟩ := enterMute_cases s
  · rw [heq]; exact h
  · rw [heq]
    exact ⟨by simpa using h.slots, by simpa using h.busy, by simp, by simpa using hidle, fun _ => by simpa using h.generator hop⟩

/-- A change of view, assembler, backoff, beacon, UNHEARD or acknowledgement keeps the property while no attempt is in progress. -/
theorem of_view {s : State} {line : Line} (hidle : s.line.attempt = none) (hattempt : line.attempt = none)
    (hmute : line.mute = s.line.mute) (hgen : line.generator = s.line.generator) (h : LineFits s) :
    LineFits { s with line := line } where
  slots := by rw [hattempt, ← hidle]; exact h.slots
  busy hsome := by rw [hattempt] at hsome; cases hsome
  mute := by rw [hmute]; exact h.mute
  noAttempt _ := hattempt
  generator hop := by rw [hgen]; exact h.generator hop

/-- A change of assembler, backoff, beacon, UNHEARD or acknowledgement keeps the property. -/
theorem of_line {s : State} {line : Line} (hview : line.view = s.line.view) (hattempt : line.attempt = s.line.attempt)
    (hmute : line.mute = s.line.mute) (hgen : line.generator = s.line.generator) (h : LineFits s) :
    LineFits { s with line := line } where
  slots := by rw [hattempt]; exact h.slots
  busy := by rw [hattempt, hview]; exact h.busy
  mute := by rw [hmute]; exact h.mute
  noAttempt := by rw [hattempt]; exact h.noAttempt
  generator hop := by rw [hgen]; exact h.generator hop

theorem of_unheard {s : State} (b : Bool) (h : LineFits s) : LineFits { s with line := { s.line with unheard := b } } :=
  h.of_line (s := s) rfl rfl rfl rfl

/-- A drawn backoff leaves the generator other than zero (R154). -/
theorem drawBackoff {s : State} (h : LineFits s) : LineFits (drawBackoff s) where
  slots := h.slots
  busy := h.busy
  mute := h.mute
  noAttempt := h.noAttempt
  generator hop := drawNext_ne_zero (h.generator hop)

/-- An attempt that has ended, with a change of its slot that leaves nothing IN_ATTEMPT and the counts in range. -/
theorem endAttempt {s : State} {a : Attempt} {f : {α : Type} → Slot α → Slot α} {fits : Nat → Prop}
    (hidle : ∀ {α : Type} (x : Slot α), slotInAttempt (f x) = false)
    (hrange : ∀ {α : Type} (x : Slot α), fits (slotRetries x) → heldInRange x → heldInRange (f x))
    (hfits : fits (readSlot slotRetries a.slot s.slots)) (ha : s.line.attempt = some a) (h : LineFits s) :
    LineFits (endAttempt f a.slot s) where
  slots := by
    have hslots := h.slots
    rw [ha] at hslots
    exact hslots.ended hidle hrange hfits
  busy hsome := by cases hsome
  mute := h.mute
  noAttempt _ := rfl
  generator := h.generator

/-- What leaves a slot is reported by a restarted beacon or the end of a flight (R158). -/
theorem reportLeaving {s : State} (id : SlotId) (hop : s.role.operating = true) (h : LineFits s) :
    LineFits (reportLeaving id s) := by
  cases id with
  | mark => exact h.of_line rfl rfl rfl rfl
  | nudge => exact h.of_handed hop (by simp [Machine.reportLeaving]) (.flightEnd s) (by simp [Machine.reportLeaving])
  | order => exact h
  | tally => exact h

end LineFits

theorem lineFits_lineKeeps : LineKeeps LineFits where
  acknowledgeFrame s _ hs := hs.of_line rfl rfl rfl rfl
  ownFrame s hop hidle hs := hs.enterMute hop hidle
  duplicateDetected s hop hs := by
    unfold duplicateDetected
    split
    · exact hs
    · rename_i a ha
      exact (hs.endAttempt (f := muteSlot) (fits := fun _ => True) slotBusy_muteSlot (fun _ _ => heldInRange_muteSlot)
        trivial ha).enterMute hop rfl
  attemptStarted s _ hs := by
    unfold attemptStarted
    split
    · rename_i hmay
      obtain ⟨hview, -, hmute⟩ : s.line.view = .idle ∧ s.line.backoff = none ∧ s.line.mute = false := by simpa [mayBegin] using hmay
      have hidle : s.line.attempt = none := by
        cases ha : s.line.attempt with
        | none => rfl
        | some a => exact absurd ((hs.busy (by rw [ha]; rfl)).symm.trans hview) (by decide)
      have hnotMute : s.role ≠ .mute := fun hrole => absurd ((hs.mute.2 hrole).symm.trans hmute) (by decide)
      split
      · exact hs
      · rename_i id cls age hselect
        have hslots := hs.slots
        rw [hidle] at hslots
        exact ⟨hslots.begun (isSome_of_slotRank (slotRank_of_selectSlot hselect)), fun _ => rfl, hs.mute,
          fun hrole => absurd hrole hnotMute, hs.generator⟩
    · exact hs
  arbitrationLost s _ hs := by
    unfold arbitrationLost
    split
    · exact hs
    · rename_i a ha
      have hended := hs.endAttempt (f := loseSlot) (fits := fun _ => True) slotBusy_loseSlot
        (fun _ _ => heldInRange_loseSlot) trivial ha
      exact ⟨hended.slots, hended.busy, hended.mute, hended.noAttempt, fun h => drawNext_ne_zero (hended.generator h)⟩
  attemptAcknowledged s hop hs := by
    unfold attemptAcknowledged
    split
    · exact hs
    · rename_i a ha
      exact ((hs.endAttempt (f := leaveSlot) (fits := fun _ => True) slotBusy_leaveSlot (fun f _ _ => heldInRange_leaveSlot f)
        trivial ha).of_unheard false).reportLeaving a.slot hop
  attemptUnacknowledged s hop hs := by
    unfold attemptUnacknowledged
    split
    · exact hs
    · rename_i a ha
      split
      · rename_i hfew
        exact (hs.endAttempt (f := retrySlot) (fits := fun n => n < 3) slotBusy_retrySlot
          (fun _ hfew hrange => heldInRange_retrySlot hrange hfew) hfew ha).drawBackoff
      · have hended := hs.endAttempt (f := leaveSlot) (fits := fun _ => True) slotBusy_leaveSlot
          (fun f _ _ => heldInRange_leaveSlot f) trivial ha
        exact LineFits.drawBackoff (LineFits.reportLeaving a.slot hop (hended.of_unheard true))
  backoffEnded s _ hs := hs.of_line rfl rfl rfl rfl
  gapEnded s _ hs := by
    unfold gapEnded
    split
    · rename_i h; exact hs.of_view h.2 h.2 rfl rfl
    · exact hs
  stepLost s _ hs := by
    unfold stepLost
    split
    · rename_i h; exact hs.of_view h.2 h.2 rfl rfl
    · exact hs
  silenceRead s _ hs := by
    unfold silenceRead
    split
    · rename_i hview
      have hidle : s.line.attempt = none := by
        cases ha : s.line.attempt with
        | none => rfl
        | some a => exact absurd ((hs.busy (by rw [ha]; rfl)).symm.trans hview) (by decide)
      exact hs.of_view hidle hidle rfl rfl
    · exact hs
  promoted id s _ hs := ⟨hs.slots.promoted id, hs.busy, hs.mute, hs.noAttempt, hs.generator⟩
  beaconEnded s hop hs := by
    unfold beaconEnded
    dsimp only
    split
    · have hqueue : LineFits (if s.slots.mark = none then queueMark s else s) := by
        split
        · exact hs.of_handed hop rfl (.handMark _ _) Iff.rfl
        · exact hs
      exact hqueue.of_line rfl rfl rfl rfl
    · exact hs
  startBitRead s _ hs := by
    unfold startBitRead
    split
    · exact ⟨hs.slots, fun _ => rfl, hs.mute, hs.noAttempt, hs.generator⟩
    · exact hs

theorem lineFits_keyPressed (key : Key) : KeptBy LineFits (keyPressed key) := by
  intro s hop hs
  obtain ⟨-, heq⟩ | ⟨hrole, heq⟩ | ⟨-, hstep⟩ | ⟨-, heq⟩ := keyPressed_cases key hop
  · rw [heq]; exact hs.of_same (s := s) hop rfl rfl Iff.rfl
  · rw [heq]
    exact hs.of_handed (s := s) hop (by simp) (SlotsHanded.offerNudge (addToNudge (keyStep key) s)) (by simp)
  · exact hs.headStep hop hstep
  · rw [heq]
    have hadjust : LineFits (adjustPreferences (keyStep key) s) := hs.of_same (s := s) hop rfl rfl Iff.rfl
    obtain heq' | heq' := pressLocal_cases (keyStep key) s
    · rw [heq']; exact hadjust
    · rw [heq']; exact hadjust.setTarget _ hop

theorem lineFits_contactAsserted : KeptBy LineFits contactAsserted := by
  intro s hop hs
  have hocc : LineFits (occupiedState s) := hs.of_same (s := s) hop rfl rfl Iff.rfl
  obtain ⟨t, light, ht, heq, -⟩ := contactAsserted_cases s
  rw [heq]
  obtain rfl | ⟨slots, hslots, rfl⟩ | ⟨-, hstep⟩ := ht
  · exact hs.of_same (s := s) hop rfl rfl Iff.rfl
  · exact hs.of_handed (s := s) hop rfl hslots Iff.rfl
  · have ht : LineFits t := hocc.headStep (s := occupiedState s) hop hstep
    exact ⟨ht.slots, ht.busy, ht.mute, ht.noAttempt, ht.generator⟩

theorem lineFits_takeOrder (o : Order) : KeptBy LineFits (takeOrder o) := by
  intro s hop hs
  obtain heq | ⟨haccepts, -, -, heq⟩ := takeOrder_cases o s
  · rw [heq]; exact hs
  · have hnotMute : s.role ≠ .mute := fun h => by simp [h, Role.acceptsOrders] at haccepts
    have hslots : SlotsHanded s.slots (acceptOrder o s).slots := by
      obtain ⟨slots, light, answered, hslots, -, ⟨-, heq'⟩ | ⟨-, heq'⟩⟩ := acceptOrder_cases o s
      · rw [heq']; exact hslots
      · have hoffered : ∀ t : State, SlotsHanded s.slots t.slots → SlotsHanded s.slots (offerNudge t).slots :=
          fun t h => h.trans (.offerNudge t)
        rw [heq']; exact hoffered _ hslots
    rw [heq]
    exact hs.of_handed hop (by simp) hslots (by simp [acceptOrder_role, hnotMute])

theorem lineFits_blocksKeep : BlocksKeep LineFits where
  quietEnded s hop hs := by
    obtain heq | ⟨hrole, -, heq⟩ | ⟨hrole, -, heq⟩ := quietEnded_cases s
    · rw [heq]; exact hs
    · rw [heq]; exact hs.of_handed hop rfl (.handOrder _ _) (by simp [hrole, enterHeadGather])
    · rw [heq]; exact hs.of_same hop rfl rfl (by simp [hrole, enterAwait])
  gatherEnded s hop hs := by
    obtain heq | ⟨z, -, hrole, heq⟩ := gatherEnded_cases s
    · rw [heq]; exact hs
    · rw [heq]
      exact hs.of_handed hop (by simp) (by rw [queueOrder_slots]; exact .handOrder _ _) (by simp [hrole])
  roundClosed s hop hs := hs.headStep hop (.roundClosed s)
  headTally source t s hop hs := hs.headStep hop (.headTally source t s)
  headNudge n s hop hs := hs.headStep hop (.headNudge n s)
  filterPreset source p s hop hs := hs.headStep hop (.filterPreset source p s)
  filterSchedule source code s hop hs := by
    have hmode : ∀ mode, LineFits { s with floorMode := mode } := fun mode => hs.of_same (s := s) hop rfl rfl Iff.rfl
    obtain heq | ⟨mode, heq | heq⟩ := filterSchedule_cases source code s
    · rw [heq]; exact hs
    · rw [heq]; exact hmode mode
    · rw [heq]; exact (hmode mode).setTarget _ hop
  residencyReached s hop hs := hs.headStep hop (.residencyReached s)
  takeOrder := lineFits_takeOrder
  orderTimedOut s hop hs := by
    obtain heq | ⟨hrole, heq⟩ := orderTimedOut_cases s
    · rw [heq]; exact hs
    · have hnotMute : s.role ≠ .mute := by obtain h | h := hrole <;> simp [h]
      rw [heq]
      exact hs.of_same hop (by simp) (by simp) (by simp [enterOrphan, hnotMute])
  localRoundEnded s hop hs := by
    obtain heq | ⟨-, heq⟩ := localRoundEnded_cases s
    · rw [heq]; exact hs
    · rw [heq]; exact hs.of_same (s := s) hop rfl rfl Iff.rfl
  contactAsserted := lineFits_contactAsserted
  contactReleased s hop hs := hs.of_same (s := s) hop rfl rfl Iff.rfl
  holdEnded s hop hs := by
    have hended : LineFits { s with cell := { s.cell with occupied := false, hold := .stopped } } :=
      hs.of_same (s := s) hop rfl rfl Iff.rfl
    obtain heq | ⟨n, -, heq | heq⟩ := holdEnded_cases s
    · rw [heq]; exact hs
    · rw [heq]; exact hended
    · rw [heq]; exact hended.setTarget _ hop
  readSensor r s hop hs := hs.of_same hop (by simp) (by simp) (by simp)
  keyPressed := lineFits_keyPressed

theorem lineFits_labelsKeep : LabelsKeep LineFits where
  edges s _ _ _ hs := ⟨hs.slots, hs.busy, hs.mute, hs.noAttempt, hs.generator⟩
  queueMark s hop hs := hs.of_handed hop rfl (.handMark _ _) Iff.rfl
  adoptEpoch epoch s hop hs := by
    refine hs.of_handed hop (by simp) (by rw [adoptEpoch, labelChange_slots]; exact .handMark _ _) ?_
    rw [adoptEpoch, labelChange_role]
    split <;> simp_all

/-- The generator's first value, one more than the own number, is not zero (R165). -/
theorem startGenerator_ne_zero (own : Station) : own.setWidth 16 + 1 ≠ (0 : BitVec 16) := by
  bv_omega

theorem slotsFit_empty : SlotsFit none { order := none, mark := none, nudge := none, tally := none } := by
  have hempty : ∀ {α : Type}, SlotFits (decide ((none : Option SlotId) = some .order)) (none : Slot α) :=
    ⟨rfl, fun _ h => by cases h⟩
  exact ⟨hempty, hempty, hempty, hempty⟩

theorem lineFits_blindToPort : BlindToPort LineFits where
  port s _ _ hs := ⟨hs.slots, hs.busy, hs.mute, hs.noAttempt, hs.generator⟩
  outputs s _ _ _ hs := ⟨hs.slots, hs.busy, hs.mute, hs.noAttempt, hs.generator⟩
  rest role light damper reheat store s hrest := by
    have hnotMute : role ≠ .mute := fun h => by simp [h, Role.operating] at hrest
    have hnone : ¬ (false = true) := by decide
    exact ⟨slotsFit_empty, fun h => absurd h hnone, ⟨fun h => absurd h hnone, fun h => absurd h hnotMute⟩, fun _ => rfl,
      fun h => absurd (hrest.symm.trans h) (by decide)⟩
  start inputs s := by
    rw [startOperating_eq]
    have hnone : ¬ (false = true) := by decide
    have hsettling : ¬ (Role.settling = .mute) := by decide
    exact ⟨slotsFit_empty.of_handed (.handMark _ _), fun h => absurd h hnone,
      ⟨fun h => absurd h hnone, fun h => absurd h hsettling⟩, fun _ => rfl,
      fun _ => startGenerator_ne_zero (loadParams s.store.bytes).own⟩

theorem lineFits_advance {s : State} (hs : LineFits s) : LineFits (advance s) where
  slots := hs.slots.aged
  busy := hs.busy
  mute := hs.mute
  noAttempt := hs.noAttempt
  generator := hs.generator

/-- Settles O14: content is handed to slots without touching an attempt, an attempt begins and ends with its slot, and the MUTE flag
is set with the role. -/
theorem stepKeepsLineSound : Obligations.StepKeepsLineSound := by
  intro s t hline hslots hgen h
  rw [← lineFits_iff]
  exact step_keeps (P := LineFits) (fun _ _ _ hs => ⟨hs.slots, hs.busy, hs.mute, hs.noAttempt, hs.generator⟩)
    (fun _ => lineFits_advance)
    (exec_keeps lineFits_labelsKeep.edgesKeep lineFits_blocksKeep lineFits_lineKeeps lineFits_blindToPort.storeKeeps)
    ((lineFits_iff s).2 ⟨hline, hslots, hgen⟩) h

end Sys2Proof.Machine
end

section
/-! PROOF. The arithmetic of the Climate Calculator and of the outputs (Chapter 5, R128): the clamps, the two rounding modes, the
means, stages 3 to 6, and the damper and reheat commands. -/

namespace Sys2Proof.Machine

/-! ### Clamps and rounding -/

theorem clamp_of_lt {lo x : Int} (hi : Int) (hx : x < lo) : clamp lo hi x = lo := by
  unfold clamp; omega

theorem clamp_of_gt {lo hi x : Int} (h : lo ≤ hi) (hx : hi < x) : clamp lo hi x = hi := by
  unfold clamp; omega

/-- Half up: the nearest integer, and the upper one of two that are equally near. -/
theorem roundHalfUp_bounds (num : Int) {den : Nat} (h : 0 < den) :
    2 * (den * roundHalfUp num den) ≤ 2 * num + den ∧ 2 * num < 2 * (den * roundHalfUp num den) + den := by
  unfold roundHalfUp
  have hpos : (0 : Int) < 2 * den := by omega
  have hle := Int.mul_ediv_self_le (x := 2 * num + den) (k := 2 * den) (by omega)
  have hlt := Int.lt_mul_ediv_self_add (x := 2 * num + den) hpos
  rw [mul_assoc] at hle hlt
  omega

/-- A quotient between two integers is rounded half up between them. -/
theorem roundHalfUp_within {lo hi num : Int} {den : Nat} (h : 0 < den) (hlo : lo * den ≤ num) (hhi : num ≤ hi * den) :
    Within lo hi (roundHalfUp num den) := by
  unfold roundHalfUp
  have hpos : (0 : Int) < 2 * den := by omega
  constructor
  · rw [Int.le_ediv_iff_mul_le hpos]
    linarith
  · rw [← Int.lt_add_one_iff, Int.ediv_lt_iff_lt_mul hpos]
    have hden : (0 : Int) < den := by omega
    linarith

theorem roundHalfUp_zero (den : Nat) : roundHalfUp 0 den = 0 := by
  unfold roundHalfUp
  rw [mul_zero, zero_add]
  obtain rfl | h := Nat.eq_zero_or_pos den
  · rfl
  · exact Int.ediv_eq_zero_of_lt (by omega) (by omega)

theorem roundHalfAway_of_nonneg {num : Int} (h : 0 ≤ num) (den : Nat) : roundHalfAway num den = roundHalfUp num den :=
  if_pos h

theorem roundHalfAway_of_nonpos {num : Int} (h : num ≤ 0) (den : Nat) : roundHalfAway num den = -(roundHalfUp (-num) den) := by
  obtain rfl | hneg := h.eq_or_lt
  · simp [roundHalfAway, roundHalfUp_zero]
  · exact if_neg (by omega)

theorem roundHalfAway_neg (num : Int) (den : Nat) : roundHalfAway (-num) den = -(roundHalfAway num den) := by
  rcases le_total 0 num with h | h
  · rw [roundHalfAway_of_nonneg h, roundHalfAway_of_nonpos (by omega), neg_neg]
  · rw [roundHalfAway_of_nonneg (by omega), roundHalfAway_of_nonpos h, neg_neg]

/-- A quotient between two integers is rounded half away from zero between them. -/
theorem roundHalfAway_within {lo hi num : Int} {den : Nat} (h : 0 < den) (hlo : lo * den ≤ num) (hhi : num ≤ hi * den) :
    Within lo hi (roundHalfAway num den) := by
  rcases le_total 0 num with hnum | hnum
  · rw [roundHalfAway_of_nonneg hnum]
    exact roundHalfUp_within h hlo hhi
  · rw [roundHalfAway_of_nonpos hnum]
    obtain ⟨h1, h2⟩ := roundHalfUp_within (lo := -hi) (hi := -lo) (num := -num) h (by linarith) (by linarith)
    exact ⟨by linarith, by linarith⟩

/-! ### Means -/

/-- The sum of values in a range lies between the multiples of its bounds. -/
theorem sum_within {lo hi : Int} {values : List Int} (h : ∀ x ∈ values, Within lo hi x) :
    lo * values.length ≤ values.sum ∧ values.sum ≤ hi * values.length := by
  constructor
  · have := List.card_nsmul_le_sum values lo fun x hx => (h x hx).1
    rwa [nsmul_eq_mul, mul_comm] at this
  · have := List.sum_le_card_nsmul values hi fun x hx => (h x hx).2
    rwa [nsmul_eq_mul, mul_comm] at this

theorem meanPreference_within {lo hi : Int} {values : List Int} (hne : values ≠ []) (h : ∀ x ∈ values, Within lo hi x) :
    Within lo hi (meanPreference values) :=
  roundHalfUp_within (List.length_pos_iff.2 hne) (sum_within h).1 (sum_within h).2

theorem meanDemand_within {lo hi : Int} {values : List Int} (hne : values ≠ []) (h : ∀ x ∈ values, Within lo hi x) :
    Within lo hi (meanDemand values) :=
  roundHalfAway_within (List.length_pos_iff.2 hne) (sum_within h).1 (sum_within h).2

theorem zoneTemperature_of_present {temps : List (Option Int)} (h : temps.filterMap id ≠ []) :
    zoneTemperature temps = some (roundHalfAway (temps.filterMap id).sum (temps.filterMap id).length) := by
  unfold zoneTemperature
  cases hpresent : temps.filterMap id with
  | nil => exact absurd hpresent h
  | cons t ts => rfl

theorem zoneTemperature_of_absent {temps : List (Option Int)} (h : temps.filterMap id = []) : zoneTemperature temps = none := by
  unfold zoneTemperature
  rw [h]

theorem zoneTemperature_eq_none_iff (temps : List (Option Int)) : zoneTemperature temps = none ↔ ∀ x, some x ∉ temps := by
  have hnil : temps.filterMap id = [] ↔ ∀ x, some x ∉ temps := by
    rw [List.filterMap_eq_nil_iff]
    constructor
    · exact fun h x hx => absurd (h _ hx) (by simp)
    · intro h t ht
      cases t with
      | none => rfl
      | some x => exact absurd ht (h x)
  rw [← hnil]
  refine ⟨fun h => ?_, zoneTemperature_of_absent⟩
  by_contra hne
  rw [zoneTemperature_of_present hne] at h
  cases h

theorem zoneTemperature_within {lo hi : Int} {temps : List (Option Int)} (h : ∀ x, some x ∈ temps → Within lo hi x) :
    ∀ z ∈ zoneTemperature temps, Within lo hi z := by
  intro z hz
  have hne : temps.filterMap id ≠ [] := by
    intro hnil
    rw [zoneTemperature_of_absent hnil] at hz
    cases hz
  rw [zoneTemperature_of_present hne] at hz
  cases hz
  refine meanDemand_within hne fun x hx => h x ?_
  simpa using hx

/-- Settles O21: the clamps and roundings by the division they are, the means by the bounds of a sum. -/
theorem roundingAndMeans : Obligations.RoundingAndMeans := by
  refine ⟨fun x => ⟨fun lo hi hle => ⟨clamp_of_lt hi, clamp_of_gt hle, fun h => clamp_of_within h.1 h.2⟩, rfl, rfl, rfl⟩,
    fun num den hden => ⟨(roundHalfUp_bounds num hden).1, (roundHalfUp_bounds num hden).2,
      fun h => roundHalfAway_of_nonneg h den, roundHalfAway_neg num den⟩,
    fun temps h => ⟨zoneTemperature_eq_none_iff temps, zoneTemperature_within h⟩,
    fun temps => zoneTemperature_of_present, fun values => ⟨rfl, rfl⟩,
    fun lo hi values hne h => ⟨meanPreference_within hne h, meanDemand_within hne h⟩⟩

/-! ### Stages 3 to 6 -/

theorem effectiveDeadband_eq (p : Params) (occ : Occupancy) (mode : FloorMode) :
    effectiveDeadband p occ mode = if occ = .vacant ∧ mode ≠ .day then p.deadband + p.setback else p.deadband := by
  cases occ <;> cases mode <;> rfl

theorem effectiveDeadband_within {p : Params} (h : p.gainsInRange) (occ : Occupancy) (mode : FloorMode) :
    Within 0 60 (effectiveDeadband p occ mode) := by
  obtain ⟨-, -, hband, hsetback⟩ := h
  rw [effectiveDeadband_eq]
  split <;> constructor <;> omega

/-- The error at or inside the deadband (R88). -/
theorem climateError_inside {setpoint t band : Int} (h : Within (-band) band (clamp (-200) 200 (setpoint - t))) :
    climateError setpoint (some t) band = 0 :=
  if_pos (by omega)

/-- The error beyond the deadband (R88). -/
theorem climateError_outside {setpoint t band : Int}
    (h : band < clamp (-200) 200 (setpoint - t) ∨ clamp (-200) 200 (setpoint - t) < -band) :
    climateError setpoint (some t) band = clamp (-200) 200 (setpoint - t) :=
  if_neg (by omega)

theorem climateError_within (setpoint : Int) (tz : Option Int) (band : Int) : Within (-200) 200 (climateError setpoint tz band) := by
  cases tz with
  | none =>
    have hzero : Within (-200) 200 0 := by decide
    exact hzero
  | some t =>
    unfold climateError
    dsimp only
    split
    · exact ⟨by decide, by decide⟩
    · exact clamp_within (by decide) _

/-- A factor within `0..a` times an error within 200 lies within `200 a`. -/
theorem mul_error_within {a k e : Int} (hk : Within 0 a k) (he : Within (-200) 200 e) : Within (-(200 * a)) (200 * a) (k * e) := by
  obtain ⟨hk0, hka⟩ := hk
  obtain ⟨he0, he1⟩ := he
  constructor <;> nlinarith

/-- The increment is a tenth of ki times e with its fraction dropped, with the sign of e (R92). -/
theorem integralIncrement_spec {p : Params} (hki : Within 0 50 p.ki) {e : Int} (he : Within (-200) 200 e) :
    (integralIncrement p e).natAbs = (p.ki * e).natAbs / 10 ∧ (0 ≤ e → 0 ≤ integralIncrement p e)
      ∧ (e ≤ 0 → integralIncrement p e ≤ 0) ∧ Within (-1000) 1000 (integralIncrement p e) := by
  have habs : (integralIncrement p e).natAbs = (p.ki * e).natAbs / 10 := Int.natAbs_tdiv _ _
  have hbound := mul_error_within hki he
  refine ⟨habs, fun h => Int.tdiv_nonneg (mul_nonneg hki.1 h) (by decide), fun h => ?_, ?_⟩
  · have hneg : 0 ≤ (-(p.ki * e)).tdiv 10 :=
      Int.tdiv_nonneg (by rw [← mul_neg]; exact mul_nonneg hki.1 (by omega)) (by decide)
    rw [Int.neg_tdiv] at hneg
    unfold integralIncrement
    omega
  · constructor <;> omega

/-- The increment form skips an increment that drives a sum beyond full output further (R92). -/
theorem integratorNext_of_skipped {prop i inc : Int} (hbeyond : 1000 < prop + i + inc ∨ prop + i + inc < -1000)
    (hsign : 0 < inc ∧ 0 < prop + i ∨ inc < 0 ∧ prop + i < 0) : integratorNext prop i inc = i := by
  refine if_pos ?_
  simp only [sameSign, Bool.and_eq_true, decide_eq_true_eq]
  exact ⟨by omega, hsign⟩

/-- The increment form adds any other increment (R92). -/
theorem integratorNext_of_not_skipped {prop i inc : Int}
    (h : ¬ ((1000 < prop + i + inc ∨ prop + i + inc < -1000) ∧ (0 < inc ∧ 0 < prop + i ∨ inc < 0 ∧ prop + i < 0))) :
    integratorNext prop i inc = clampDemand (i + inc) := by
  refine if_neg ?_
  simp only [sameSign, Bool.and_eq_true, decide_eq_true_eq]
  exact fun hskip => h ⟨by omega, hskip.2⟩

/-- The first demand is the mean last demand where neither is clamped (R91). -/
theorem demandOf_integratorSeed {m prop : Int} (hm : Within (-1000) 1000 m) (hseed : Within (-1000) 1000 (m - prop)) :
    demandOf prop (integratorSeed m prop) = m := by
  have hexact : integratorSeed m prop = m - prop := clamp_of_within hseed.1 hseed.2
  rw [hexact, demandOf, add_sub_cancel]
  exact clamp_of_within hm.1 hm.2

/-- Settles O22: stage by stage, from the ranges of the gains and of the error. -/
theorem birthIsBumpless : Obligations.BirthIsBumpless := by
  intro p setpoint m tz occ mode hgains band e prop inc
  have he : Within (-200) 200 e := climateError_within _ _ _
  obtain ⟨hkp, hki, -, -⟩ := id hgains
  obtain ⟨habs, hpos, hneg, hinc⟩ := integralIncrement_spec hki he
  refine ⟨effectiveDeadband_eq p occ mode, effectiveDeadband_within hgains occ mode, ?_, ?_, he, rfl, mul_error_within hkp he,
    habs, hpos, hneg, hinc, rfl, clampDemand_within _, ?_, fun i => ⟨rfl, clampDemand_within _⟩, demandOf_integratorSeed⟩
  · rintro rfl; rfl
  · rintro t rfl
    exact ⟨climateError_inside, climateError_outside⟩
  · exact fun i hi => ⟨integratorNext_within _ _ _ hi, fun h => integratorNext_of_skipped h.1 h.2, integratorNext_of_not_skipped⟩

/-! ### The damper and reheat commands -/

theorem damperFor_cooling (p : Params) {d : Int} (h : d < 0) :
    damperFor p d = p.minFlow + roundHalfUp (d.natAbs * (p.maxFlow - p.minFlow)) 1000 := by
  have habs : (d.natAbs : Int) = -d := by omega
  rw [habs]
  exact if_pos h

theorem damperFor_heating (p : Params) {d : Int} (h : 0 < d) : damperFor p d = p.heatFlow := by
  unfold damperFor
  rw [if_neg (by omega), if_neg (by omega)]

theorem reheatFor_of_nonpos {d : Int} (h : d ≤ 0) : reheatFor d = 0 := if_neg (by omega)

theorem reheatFor_heating {d : Int} (h : 0 < d) : reheatFor d = d := if_pos h

theorem damperFor_within_flows {p : Params} (h : p.levelsInRange) {d : Int} (hd : Within (-1000) 1000 d) :
    Within p.minFlow p.maxFlow (damperFor p d) := by
  obtain ⟨-, -, -, hmin, hheat, hmax, htop⟩ := h
  rcases lt_trichotomy d 0 with hneg | rfl | hpos
  · rw [damperFor_cooling p hneg]
    obtain ⟨h1, h2⟩ := roundHalfUp_within (lo := 0) (hi := p.maxFlow - p.minFlow) (num := d.natAbs * (p.maxFlow - p.minFlow))
      (den := 1000) (by decide) (by rw [zero_mul]; exact mul_nonneg (by omega) (by omega))
      (by rw [mul_comm]; exact mul_le_mul_of_nonneg_left (by omega) (by omega))
    exact ⟨by omega, by omega⟩
  · exact ⟨le_refl _, le_trans hheat hmax⟩
  · rw [damperFor_heating p hpos]
    exact ⟨hheat, hmax⟩

theorem damperFor_within {p : Params} (h : p.levelsInRange) {d : Int} (hd : Within (-1000) 1000 d) :
    Within 0 1000 (damperFor p d) := by
  obtain ⟨h1, h2⟩ := damperFor_within_flows h hd
  obtain ⟨-, -, -, hmin, -, -, hmax⟩ := h
  exact ⟨le_trans hmin h1, le_trans h2 hmax⟩

theorem reheatFor_within {d : Int} (hd : Within (-1000) 1000 d) : Within 0 1000 (reheatFor d) := by
  rcases le_or_gt d 0 with h | h
  · rw [reheatFor_of_nonpos h]; exact ⟨by decide, by decide⟩
  · rw [reheatFor_heating h]; exact ⟨h.le, hd.2⟩

/-- At full cooling the damper is at the maximum flow. -/
theorem damperFor_full_cooling (p : Params) : damperFor p (-1000) = p.maxFlow := by
  have hexact : roundHalfUp (((-1000 : Int).natAbs : Int) * (p.maxFlow - p.minFlow)) 1000 = p.maxFlow - p.minFlow := by
    unfold roundHalfUp
    have h1000 : ((-1000 : Int).natAbs : Int) = 1000 := by decide
    rw [h1000]
    omega
  rw [damperFor_cooling p (by decide), hexact]
  omega

/-- Settles O23: by the sign of the demand. -/
theorem damperStaysWithinFlows : Obligations.DamperStaysWithinFlows := by
  intro p d hlevels hd
  refine ⟨damperFor_within_flows hlevels hd, damperFor_within hlevels hd, reheatFor_within hd,
    fun h => ⟨damperFor_cooling p h, reheatFor_of_nonpos h.le⟩, ?_, fun h => ⟨damperFor_heating p h, reheatFor_heating h⟩, ?_⟩
  · rintro rfl; exact ⟨rfl, rfl⟩
  · rintro rfl; exact damperFor_full_cooling p

end Sys2Proof.Machine
end

section
/-! PROOF. The commissioning record as it is loaded (10.1): every field in its range, the edges and the neighbour numbers; and the
resets and the service port (10.2 to 10.5). -/

namespace Sys2Proof.Machine

/-! ### Loading -/

/-- Every loaded parameter lies in its range (R173). -/
theorem loadParams_inRange (bytes : List Byte) : (loadParams bytes).inRange := by
  refine ⟨?_, ?_, ?_, ?_⟩
  · simp only [Params.countsInRange, loadParams, byteField, wordField, clampNat, recordGateways, List.length_take]
    omega
  · simp only [Params.timesInRange, loadParams, byteField, wordField, clampNat]
    omega
  · simp only [Params.gainsInRange, Within, loadParams, byteField, clampNat]
    omega
  · simp only [Params.levelsInRange, Within, loadParams, wordField, clampNat]
    omega

/-- The cell number of a record: the row and the column it names, each at most 63 (R173). -/
theorem loadParams_own (bytes : List Byte) :
    (loadParams bytes).own.toNat = min 63 (recordByte bytes 0) * 64 + min 63 (recordByte bytes 1) := by
  simp only [loadParams, recordNumber, byteField, clampNat, BitVec.toNat_ofNat]
  omega

/-! ### Neighbour numbers -/

theorem neighbourNumber_north {own n : Station} (h : neighbourNumber own .north = some n) : n.toNat + 64 = own.toNat := by
  simp only [neighbourNumber, Option.ite_none_right_eq_some, Option.some.injEq] at h
  obtain ⟨hinside, rfl⟩ := h
  bv_omega

theorem neighbourNumber_east {own n : Station} (h : neighbourNumber own .east = some n) : n.toNat = own.toNat + 1 := by
  simp only [neighbourNumber, Option.ite_none_right_eq_some, Option.some.injEq] at h
  obtain ⟨hinside, rfl⟩ := h
  bv_omega

theorem neighbourNumber_south {own n : Station} (h : neighbourNumber own .south = some n) : n.toNat = own.toNat + 64 := by
  simp only [neighbourNumber, Option.ite_none_right_eq_some, Option.some.injEq] at h
  obtain ⟨hinside, rfl⟩ := h
  bv_omega

theorem neighbourNumber_west {own n : Station} (h : neighbourNumber own .west = some n) : n.toNat + 1 = own.toNat := by
  simp only [neighbourNumber, Option.ite_none_right_eq_some, Option.some.injEq] at h
  obtain ⟨hinside, rfl⟩ := h
  bv_omega

/-- A direction has no neighbour where the grid ends (R1). -/
theorem neighbourNumber_eq_none {own : Station} {row col : Nat} (hcol : col ≤ 63) (hown : own.toNat = row * 64 + col) :
    (neighbourNumber own .north = none ↔ row = 0) ∧ (neighbourNumber own .south = none ↔ row = 63)
      ∧ (neighbourNumber own .west = none ↔ col = 0) ∧ (neighbourNumber own .east = none ↔ col = 63) := by
  have hlt := own.isLt
  simp only [neighbourNumber, ite_eq_right_iff, reduceCtorEq, imp_false]
  omega

/-! ### Edge kinds -/

theorem startKind_of_outside {own : Station} {d : Dir} (bytes : List Byte) (h : neighbourNumber own d = none) :
    startKind own bytes d = .boundary :=
  if_pos h

theorem startKind_of_inside {own : Station} {d : Dir} (bytes : List Byte) (h : neighbourNumber own d ≠ none) :
    startKind own bytes d = recordKind bytes d :=
  if_neg h

/-- The byte of the record that holds a direction's edge kind (R172). -/
def kindByte : Dir → Nat
  | .north => 2
  | .east => 3
  | .south => 4
  | .west => 5

theorem recordKind_eq (bytes : List Byte) (d : Dir) : recordKind bytes d = EdgeKind.ofCode (recordByte bytes (kindByte d)) := by
  cases d <;> rfl

/-- A code of 0 or of 5 and above is WALL (R173). -/
theorem edgeKind_ofCode_wall {c : Nat} (h : c = 0 ∨ 5 ≤ c) : EdgeKind.ofCode c = .wall := by
  unfold EdgeKind.ofCode
  split
  · omega
  · omega
  · omega
  · omega
  · rfl

/-- The edge kind in use, by the code the record holds (R1, R173). -/
theorem startKind_by_code {bytes : List Byte} (own : Station) (d : Dir) {code : Nat}
    (hcode : code = recordByte bytes (kindByte d)) :
    (neighbourNumber own d = none → startKind own bytes d = .boundary)
    ∧ (neighbourNumber own d ≠ none →
      (code = 0 ∨ 5 ≤ code → startKind own bytes d = .wall) ∧ (code = 1 → startKind own bytes d = .fixedOpen)
      ∧ (code = 2 → startKind own bytes d = .trackOwned) ∧ (code = 3 → startKind own bytes d = .trackMirror)
      ∧ (code = 4 → startKind own bytes d = .boundary)) := by
  refine ⟨startKind_of_outside bytes, fun hinside => ?_⟩
  rw [startKind_of_inside bytes hinside, recordKind_eq, ← hcode]
  exact ⟨edgeKind_ofCode_wall, fun h => by rw [h]; rfl, fun h => by rw [h]; rfl, fun h => by rw [h]; rfl, fun h => by rw [h]; rfl⟩

/-- Settles O58: field by field; the neighbour numbers follow from the row and the column of the own number. -/
theorem loadingClampsTheRecord : Obligations.LoadingClampsTheRecord := by
  intro bytes p byte word
  obtain ⟨hnorth, hsouth, hwest, heast⟩ := neighbourNumber_eq_none (min_le_left _ _) (loadParams_own bytes)
  refine ⟨loadParams_inRange bytes, fun i => ⟨rfl, rfl⟩, rfl, rfl, rfl, rfl, rfl, rfl, rfl, rfl, ?_, ?_, ?_, ?_, ?_, rfl, rfl, ?_,
    rfl, rfl, ?_, ?_, ?_, loadParams_own bytes, ?_, fun d => ?_, hnorth, hsouth, hwest, heast,
    fun _ => neighbourNumber_north, fun _ => neighbourNumber_east, fun _ => neighbourNumber_south, fun _ => neighbourNumber_west⟩
  · exact Nat.zero_max _
  · exact congrArg Nat.cast (Nat.zero_max _)
  · exact congrArg Nat.cast (Nat.zero_max _)
  · exact congrArg Nat.cast (Nat.zero_max _)
  · exact congrArg Nat.cast (Nat.zero_max _)
  · exact congrArg Nat.cast (Nat.zero_max _)
  · exact congrArg Nat.cast (Nat.zero_max _)
  · simp only [p, word, loadParams, wordField, clampNat]
    omega
  · simp only [p, word, loadParams, wordField, clampNat]
    omega
  · simp only [p, word, byte, loadParams, recordGateways, byteField, clampNat, Nat.zero_max]
  · exact startKind_by_code p.own d (by cases d <;> rfl)

/-! ### The resets -/

theorem exec_powerOnReset_jumper {i : StartInputs} (s : State) (h : i.jumper = true) :
    exec (.powerOnReset i) s = .next (enterService s) := by
  simp [exec, execPowerOnReset, h]

theorem exec_powerOnReset_good {i : StartInputs} {s : State} (h : i.jumper = false) (hgood : s.store.good = true) :
    exec (.powerOnReset i) s = .next (startOperating i s) := by
  simp [exec, execPowerOnReset, h, hgood]

theorem exec_powerOnReset_bare {i : StartInputs} {s : State} (h : i.jumper = false) (hgood : s.store.good = false) :
    exec (.powerOnReset i) s = .next (enterUncommissioned s) := by
  simp [exec, execPowerOnReset, h, hgood]

/-- Settles O56: the three states at rest are written out in the model. -/
theorem resetForgetsAllButTheRecord : Obligations.ResetForgetsAllButTheRecord := by
  intro i s bare off
  refine ⟨by simp [Store.good], ⟨rfl, rfl, rfl, rfl, rfl, rfl, rfl, rfl, rfl, rfl, rfl, fun d => ?_⟩, rfl,
    exec_powerOnReset_jumper s, exec_powerOnReset_bare⟩
  cases d <;> exact ⟨rfl, rfl⟩

/-- A direction at start, field by field (R1, R18, R19). -/
theorem startEdge_eq (own : Station) (bytes : List Byte) (tracks : PerDir Level) (d : Dir) :
    startEdge own bytes tracks d =
      { kind := startKind own bytes d
        neighbour := neighbourNumber own d
        raw := if startKind own bytes d = .trackOwned then atDir tracks d else .inactive
        sensed := if startKind own bytes d = .trackOwned then trackOf (atDir tracks d) else .absent
        applied := if startKind own bytes d = .trackOwned then trackOf (atDir tracks d) else .absent
        settle := none, mirror := .closed, status := .unknown, silence := none, advert := none, mismatch := false
        effective := .closed } := by
  unfold startEdge
  dsimp only
  split
  · rename_i h; simp only [h, Edge.unused]
  · simp only [Edge.unused]

/-- No direction is mismatched at start (R18). -/
theorem mismatchFlag_startState (bytes : List Byte) (tracks : PerDir Level) (s : State) :
    mismatchFlag (startState bytes tracks s) = false := by
  have hedge : ∀ d, (startEdge (loadParams bytes).own bytes tracks d).mismatch = false := fun d => by rw [startEdge_eq]
  simp [mismatchFlag, startState, hedge]

theorem startGenerator_eq (own : Station) : own.setWidth 16 + 1 = BitVec.ofNat 16 (own.toNat + 1) := by
  bv_omega

/-- Settles O57: field by field of the state the start sequence leaves. -/
theorem goodRecordStartsTheCell : Obligations.GoodRecordStartsTheCell := by
  intro i s hjumper hgood p
  refine ⟨_, exec_powerOnReset_good hjumper hgood, ?_⟩
  rw [startOperating_eq]
  refine ⟨rfl, rfl, rfl, rfl, rfl, rfl, rfl, rfl, rfl, rfl, fun d => ?_, rfl, rfl, rfl, rfl, rfl, rfl, rfl, rfl, rfl, rfl, rfl, rfl,
    rfl, rfl, rfl, rfl, rfl, ?_, ?_, rfl, rfl, rfl, _, rfl, rfl, rfl, rfl, rfl, rfl, rfl, mismatchFlag_startState _ _ s, rfl, rfl, rfl⟩
  · refine Eq.trans ?_ (startEdge_eq p.own s.store.bytes i.tracks d)
    cases d <;> rfl
  · cases i.sensor with
    | noReply => exact ⟨rfl, rfl⟩
    | reading x => by_cases hx : -100 ≤ x ∧ x ≤ 600 <;> simp [readTemperature, hx]
  · exact congrArg (fun g => ({ Line.unused with view := .resync, generator := g } : Line)) (startGenerator_eq p.own)

/-! ### The service port -/

theorem takeMessage_locked (f : State → State) {s : State} (hrole : s.role ≠ .inReset) (hport : s.port = .ready)
    (hlock : s.store.lock = true) : takeMessage f s = answer .locked [] s := by
  simp [takeMessage, hrole, hport, hlock]

theorem takeMessage_discarded (f : State → State) {s : State} (h : s.port ≠ .ready ∨ s.role = .inReset) :
    takeMessage f s = s := by
  obtain heq | ⟨hrole, hport, -⟩ | ⟨hrole, hport, -⟩ := takeMessage_cases f s
  · exact heq
  · exact absurd h (by simp [hrole, hport])
  · exact absurd h (by simp [hrole, hport])

theorem takeMessage_inService (f : State → State) {s : State} (hrole : s.role = .service) (hport : s.port = .ready)
    (hlock : s.store.lock = false) : takeMessage f s = f s := by
  simp [takeMessage, hrole, hport, hlock]

/-- The five commands that are messages at the service port. -/
theorem exec_message {data : List Byte} {code : Byte} {c : Instr}
    (h : c = .readRecord data ∨ c = .writeRecord data ∨ c = .driveOutputs data ∨ c = .unknownCommand code data
      ∨ c = .messageIncomplete data) : ∃ f, ∀ s, exec c s = .next (takeMessage f s) := by
  obtain rfl | rfl | rfl | rfl | rfl := h <;> exact ⟨_, fun _ => rfl⟩

/-- Settles O59: all messages are taken by the one rule for the port. -/
theorem lockedPortChangesNothing : Obligations.LockedPortChangesNothing := by
  intro data code s c hc
  obtain ⟨f, hexec⟩ := exec_message hc
  rw [hexec]
  exact ⟨fun hrole hport hlock => by rw [takeMessage_locked f hrole hport hlock]; rfl,
    fun h => by rw [takeMessage_discarded f h]⟩

/-- The check of a record compares its CRC with its last two bytes (R172). -/
theorem recordCheck_iff (data : List Byte) : recordCheck data = true ↔
    (crc16 ((data.take 40).flatMap bitsOf)).toNat = (data.getD 40 0).toNat * 256 + (data.getD 41 0).toNat := by
  have hword : recordWord data 40 = (data.getD 40 0).toNat * 256 + (data.getD 41 0).toNat := rfl
  have hhigh := (data.getD 40 0).isLt
  have hlow := (data.getD 41 0).isLt
  rw [recordCheck, decide_eq_true_eq, ← BitVec.toNat_inj, BitVec.toNat_ofNat, hword, Nat.mod_eq_of_lt (by omega)]
  rfl

/-- An output value of DRIVE_OUTPUTS is its two bytes, at most 1000 (R180). -/
theorem outputField_eq (data : List Byte) (i : Nat) :
    outputField data i = (min 1000 ((data.getD i 0).toNat * 256 + (data.getD (i + 1) 0).toNat) : Nat) := by
  simp only [outputField, clamp, recordWord, recordByte]
  omega

/-- Settles O60: each message by what the port does with it in SERVICE. -/
theorem servicePortAnswers : Obligations.ServicePortAnswers := by
  intro s hrole hport hlock replied badLength
  have htake : ∀ f, takeMessage f s = f s := fun f => takeMessage_inService f hrole hport hlock
  have hwrite : ∀ data, exec (.writeRecord data) s = .next (if data.length = 42 then
      if recordCheck data then beginWrite data s else answer .badCheck [] s else answer .badLength [] s) :=
    fun data => congrArg Host.Outcome.next (htake _)
  have hdrive : ∀ data, exec (.driveOutputs data) s
      = .next (if data.length = 6 then answer .ok [] (drive data s) else answer .badLength [] s) :=
    fun data => congrArg Host.Outcome.next (htake _)
  refine ⟨congrArg Host.Outcome.next (htake _), fun data hne => ?_, fun data hlen => ?_, fun data hlen => ?_,
    fun code data => congrArg Host.Outcome.next (htake _), fun bytes => congrArg Host.Outcome.next (htake _),
    fun a b c d e f => ?_, fun r => ?_, fun data hlen => ⟨recordCheck_iff data, fun hbad => ?_, fun hgood => ⟨?_, rfl⟩⟩⟩
  · refine (congrArg Host.Outcome.next (htake _)).trans ?_
    rw [if_neg (by simpa using hne)]
    rfl
  · rw [hwrite, if_neg hlen]
    rfl
  · rw [hdrive, if_neg hlen]
    rfl
  · have hlen : [a, b, c, d, e, f].length = 6 := rfl
    rw [hdrive, if_pos hlen]
    simp only [drive, outputField_eq]
    rfl
  · show Host.Outcome.next ({ s with port := .ready } : State) = .next s
    rw [← hport]
  · rw [hwrite, if_pos hlen, if_neg (by simp [hbad])]
    rfl
  · rw [hwrite, if_pos hlen, if_pos hgood]
    rfl

end Sys2Proof.Machine
end

section
/-! PROOF. What a write does to the member roll, entry by entry (R64, R65). -/

namespace Sys2Proof.Machine

theorem rollHas_iff (c : Station) (roll : List Entry) : rollHas c roll = true ↔ ∃ e ∈ roll, e.cell = c := by
  simp [rollHas]

theorem rollHas_eq_false_iff (c : Station) (roll : List Entry) : rollHas c roll = false ↔ ∀ e ∈ roll, e.cell ≠ c := by
  simp [rollHas]

/-- What a written entry stands for in the roll: the entries of other cells stand, and the entry of its cell is the new one, or the
new one with the freshness of the old. -/
def Written (new : Entry) (roll : List Entry) (e : Entry) : Prop :=
  e ∈ roll ∧ e.cell ≠ new.cell ∨ e = new ∧ rollHas new.cell roll = false
    ∨ ∃ old ∈ roll, old.cell = new.cell ∧ e = { new with freshness := old.freshness }

/-- In a roll in rising order a cell number that is less than the first stands nowhere. -/
theorem cell_ne_of_lt {c : Station} {roll : List Entry} (h : ∀ b ∈ roll, c.toNat < b.cell.toNat) : ∀ b ∈ roll, b.cell ≠ c :=
  fun b hb heq => absurd (h b hb) (by rw [heq]; exact lt_irrefl _)

/-- A written entry replaces its cell's earlier one but for its freshness, and leaves the others (R64, R65). -/
theorem mem_rollWrite_iff {new : Entry} {roll : List Entry} (h : RollSorted roll) (e : Entry) :
    e ∈ rollWrite new roll ↔ Written new roll e := by
  induction roll with
  | nil => simp [rollWrite, Written, rollHas]
  | cons a as ih =>
    obtain ⟨hlt, hsorted⟩ := List.pairwise_cons.1 h
    unfold rollWrite
    split
    · rename_i hsame
      have hothers : ∀ b ∈ as, b.cell ≠ new.cell := by rw [hsame]; exact cell_ne_of_lt hlt
      have hhas : rollHas new.cell (a :: as) = true := (rollHas_iff _ _).2 ⟨a, List.mem_cons_self, hsame.symm⟩
      simp only [Written, hhas, List.mem_cons, exists_eq_or_imp]
      constructor
      · rintro (rfl | he)
        · exact .inr (.inr (.inl ⟨hsame.symm, rfl⟩))
        · exact .inl ⟨.inr he, hothers e he⟩
      · rintro (⟨rfl | he, hne⟩ | ⟨-, hfalse⟩ | ⟨-, rfl⟩ | ⟨b, hb, hcell, -⟩)
        · exact absurd hsame.symm hne
        · exact .inr he
        · cases hfalse
        · exact .inl rfl
        · exact absurd hcell (hothers b hb)
    · rename_i hother
      split
      · rename_i hfirst
        have hothers : ∀ b ∈ a :: as, b.cell ≠ new.cell := cell_ne_of_lt fun b hb => by
          obtain rfl | hb := List.mem_cons.1 hb
          · exact hfirst
          · exact lt_trans hfirst (hlt b hb)
        have hnot : rollHas new.cell (a :: as) = false := (rollHas_eq_false_iff _ _).2 hothers
        rw [List.mem_cons]
        constructor
        · rintro (rfl | he)
          · exact .inr (.inl ⟨rfl, hnot⟩)
          · exact .inl ⟨he, hothers e he⟩
        · rintro (⟨he, -⟩ | ⟨rfl, -⟩ | ⟨b, hb, hcell, -⟩)
          · exact .inr he
          · exact .inl rfl
          · exact absurd hcell (hothers b hb)
      · have hhas : rollHas new.cell (a :: as) = rollHas new.cell as := by
          rw [rollHas, List.any_cons, decide_eq_false fun heq => hother heq.symm, Bool.false_or, rollHas]
        rw [List.mem_cons, ih hsorted]
        simp only [Written, hhas, List.mem_cons, exists_eq_or_imp]
        constructor
        · rintro (rfl | ⟨he, hne⟩ | hnew | hold)
          · exact .inl ⟨.inl rfl, fun hcell => hother hcell.symm⟩
          · exact .inl ⟨.inr he, hne⟩
          · exact .inr (.inl hnew)
          · exact .inr (.inr (.inr hold))
        · rintro (⟨rfl | he, hne⟩ | hnew | ⟨hcell, -⟩ | hold)
          · exact .inl rfl
          · exact .inr (.inl ⟨he, hne⟩)
          · exact .inr (.inr (.inl hnew))
          · exact absurd hcell.symm hother
          · exact .inr (.inr (.inr hold))

/-- Every entry of a written roll was in it, or is the new one but for its freshness. -/
theorem mem_of_rollWrite {new e : Entry} {roll : List Entry} (h : RollSorted roll) (he : e ∈ rollWrite new roll) :
    e ∈ roll ∨ ∃ f, e = { new with freshness := f } := by
  obtain ⟨he, -⟩ | ⟨rfl, -⟩ | ⟨old, -, -, rfl⟩ := (mem_rollWrite_iff h e).1 he
  · exact .inl he
  · exact .inr ⟨e.freshness, rfl⟩
  · exact .inr ⟨_, rfl⟩

/-- An aged entry keeps all but its freshness and its mark (R70). -/
theorem ageEntry_eq {e e' : Entry} (h : ageEntry e = some e') : ∃ f m, e' = { e with freshness := f, marked := m } := by
  unfold ageEntry at h
  split at h
  · cases h; exact ⟨_, _, rfl⟩
  · split at h
    · cases h; exact ⟨_, e.marked, rfl⟩
    · cases h

end Sys2Proof.Machine
end

section
/-! PROOF. The ranges of all values (R59, R61, R63, R71, R116, R120, R128, R130, R133, R169, R173). -/

namespace Sys2Proof.Machine

/-! ### Cell, light and record of an operating cell -/

/-- The cell's values and its preferences lie in their ranges. -/
structure CellRanged (c : Cell) : Prop where
  values : c.inRange
  tempPref : Within 120 300 c.tempPref
  lightPref : Within 100 1000 c.lightPref

/-- The light target and output lie in their range. -/
def LightRanged (l : Light) : Prop := Within 0 1000 l.target ∧ Within 0 1000 l.output

/-- The record's values and its roll lie in their ranges and bounds. -/
def ZoneRanged (role : Role) (own : Station) (z : Zone) : Prop := z.inRange ∧ RollFits role own z.roll

/-- Everything an operating cell holds lies in its range. -/
structure Ranged (s : State) : Prop where
  params : s.params.inRange
  cell : CellRanged s.cell
  light : LightRanged s.light
  zone : ∀ z ∈ s.zone, ZoneRanged s.role s.params.own z

/-- The ranges of a state of any role: the parameters and the preferences are in use in operation alone. -/
def AllRanged (s : State) : Prop :=
  s.loadedInRange ∧ s.cell.inRange ∧ LightRanged s.light ∧ ∀ z ∈ s.zone, ZoneRanged s.role s.params.own z

theorem AllRanged.ranged {s : State} (h : AllRanged s) (hop : s.role.operating = true) : Ranged s := by
  obtain ⟨hloaded, hcell, hlight, hzone⟩ := h
  obtain ⟨hparams, htemp, hpref⟩ := hloaded hop
  exact ⟨hparams, ⟨hcell, htemp, hpref⟩, hlight, hzone⟩

theorem Ranged.all {s : State} (h : Ranged s) : AllRanged s :=
  ⟨fun _ => ⟨h.params, h.cell.tempPref, h.cell.lightPref⟩, h.cell.values, h.light, h.zone⟩

/-- What keeps the ranges of operating cells keeps the ranges. -/
theorem keptBy_of_ranged {f : State → State} (h : ∀ s, s.role.operating = true → Ranged s → Ranged (f s)) :
    KeptBy AllRanged f :=
  fun s hop hs => (h s hop (hs.ranged hop)).all

/-- A preference of light is a light level. -/
theorem Within.lightLevel {x : Int} (h : Within 100 1000 x) : Within 0 1000 x := ⟨le_trans (by decide) h.1, h.2⟩

theorem lightFor_ranged {p : Params} (hp : p.inRange) (occ : Occupancy) (mode : FloorMode) {pref : Int} (h : Within 100 1000 pref) :
    Within 0 1000 (lightFor p occ mode pref) :=
  lightFor_within p occ mode pref h.lightLevel hp.2.2.2.2.2.1

theorem LightRanged.aimed {l : Light} (h : LightRanged l) {t : Int} (ht : Within 0 1000 t) : LightRanged (aimed t l) := by
  unfold LightRanged
  rw [aimed_target, aimed_output]
  exact ⟨ht, h.2⟩

theorem Ranged.setTarget {s : State} (h : Ranged s) {t : Int} (ht : Within 0 1000 t) : Ranged (setTarget t s) := by
  rw [setTarget_eq]
  exact ⟨h.params, h.cell, h.light.aimed ht, h.zone⟩

theorem Ranged.formLocalTarget {s : State} (h : Ranged s) : Ranged (formLocalTarget s) :=
  h.setTarget (lightFor_ranged h.params _ _ h.cell.lightPref)

/-! ### Stored ORDERs -/

theorem followTarget_within {o : Order} (h : o.inRange) (c : Cell) : Within 0 1000 (followTarget o c) := by
  obtain ⟨-, hpref, htarget, -⟩ := h
  unfold followTarget
  split
  · exact hpref.lightLevel
  · exact htarget

theorem CellRanged.follow {p : Params} (hp : p.inRange) {o : Order} (ho : o.inRange) {c : Cell} (h : CellRanged c) :
    CellRanged (followCell p o c) := by
  obtain ⟨-, hint, hntemp, hnlight, htemp, -, -, -⟩ := h.values
  obtain ⟨hset, hpref, -, hdemand⟩ := id ho
  have hlast : ∀ o' ∈ some o, o'.inRange := by
    rintro _ ⟨⟩
    exact ho
  exact ⟨⟨hdemand, hint, hntemp, hnlight, htemp, damperFor_within hp.2.2.2 hdemand, reheatFor_within hdemand, hlast⟩, hset, hpref⟩

theorem CellRanged.lastOrder {o : Order} (ho : o.inRange) {c : Cell} (h : CellRanged c) :
    CellRanged { c with lastOrder := some o } := by
  obtain ⟨hdemand, hint, hntemp, hnlight, htemp, hdamper, hreheat, -⟩ := h.values
  have hlast : ∀ o' ∈ some o, o'.inRange := by
    rintro _ ⟨⟩
    exact ho
  exact ⟨⟨hdemand, hint, hntemp, hnlight, htemp, hdamper, hreheat, hlast⟩, h.tempPref, h.lightPref⟩

theorem CellRanged.stored {p : Params} (hp : p.inRange) {o : Order} (ho : o.inRange) {c : Cell} (h : CellRanged c) :
    CellRanged (storedCell p o c) := by
  unfold storedCell
  split
  · exact h.lastOrder ho
  · exact h.follow hp ho

theorem zoneOrder_inRange (own : Station) (kind : OrderKind) {z : Zone} (h : z.inRange) : (zoneOrder own kind z).inRange := by
  obtain ⟨hset, hpref, htarget, -, hdemand, -⟩ := h
  exact ⟨hset, hpref, htarget, hdemand⟩

theorem Ranged.queueOrder {s : State} (h : Ranged s) {z : Zone} (hz : ZoneRanged s.role s.params.own z) :
    Ranged (queueOrder .control z s) := by
  have ho := zoneOrder_inRange s.params.own .control hz.1
  rw [queueOrder_control_eq]
  refine ⟨h.params, h.cell.follow h.params ho, h.light.aimed (followTarget_within ho _), ?_⟩
  rintro _ ⟨⟩
  exact hz

/-! ### The record -/

/-- The entry of a TALLY has its values clamped and its temperature checked (R63). -/
theorem tallyEntry_inRange (source : Station) (t : Tally) : (tallyEntry source t).inRange := by
  refine ⟨clampSetpoint_within _, clampLightPref_within _, clampDemand_within _, fun x hx => ?_⟩
  unfold tallyEntry at hx
  dsimp only at hx
  split at hx
  · cases hx
  · obtain ⟨y, -, hy⟩ := Option.bind_eq_some_iff.1 hx
    split at hy
    · rename_i hrange; cases hy; exact hrange
    · cases hy

theorem ownEntry_inRange {s : State} (h : CellRanged s.cell) : (ownEntry s).inRange := by
  obtain ⟨hdemand, -, -, -, htemp, -⟩ := h.values
  refine ⟨h.tempPref, h.lightPref, hdemand, fun x hx => ?_⟩
  unfold ownEntry reportedTemperature at hx
  dsimp only at hx
  split at hx
  · cases hx
  · exact htemp x hx

theorem rollWrite_inRange {new : Entry} {roll : List Entry} (hsorted : RollSorted roll) (hnew : new.inRange)
    (hroll : ∀ e ∈ roll, e.inRange) : ∀ e ∈ rollWrite new roll, e.inRange := by
  intro e he
  obtain he | ⟨f, rfl⟩ := mem_of_rollWrite hsorted he
  · exact hroll e he
  · exact hnew

theorem ageRoll_inRange {roll : List Entry} (hroll : ∀ e ∈ roll, e.inRange) : ∀ e ∈ roll.filterMap ageEntry, e.inRange := by
  intro e he
  obtain ⟨old, hold, hage⟩ := List.mem_filterMap.1 he
  obtain ⟨f, m, rfl⟩ := ageEntry_eq hage
  exact hroll old hold

/-- A field of a filtered PRESET that is no 0 lies in its range (R169). -/
theorem presetField_filtered (p : Preset) :
    (∀ x ∈ presetField p.filtered.setpoint, Within 120 300 x) ∧ ∀ x ∈ presetField p.filtered.lightPref, Within 100 1000 x := by
  constructor <;> intro x hx
  · by_cases h : p.setpoint = 0
    · simp [presetField, Preset.filtered, h] at hx
    · obtain ⟨-, rfl⟩ : _ ∧ clampSetpoint p.setpoint = x := by simpa [presetField, Preset.filtered, h] using hx
      exact clampSetpoint_within _
  · by_cases h : p.lightPref = 0
    · simp [presetField, Preset.filtered, h] at hx
    · obtain ⟨-, rfl⟩ : _ ∧ clampLightPref p.lightPref = x := by simpa [presetField, Preset.filtered, h] using hx
      exact clampLightPref_within _

theorem getD_within {lo hi : Int} {o : Option Int} {x : Int} (ho : ∀ y ∈ o, Within lo hi y) (hx : Within lo hi x) :
    Within lo hi (o.getD x) := by
  cases o with
  | none => exact hx
  | some y => exact ho y rfl

/-- A record with another roll in range. -/
theorem Zone.inRange.roll {z : Zone} (h : z.inRange) {roll : List Entry} (hroll : ∀ e ∈ roll, e.inRange) :
    ({ z with roll := roll } : Zone).inRange := by
  obtain ⟨hset, hpref, htarget, hint, hdemand, hc1, hc2, hatemp, halight, hpreset, -⟩ := h
  exact ⟨hset, hpref, htarget, hint, hdemand, hc1, hc2, hatemp, halight, hpreset, hroll⟩

/-- A record with another setpoint, light preference and light target in range. -/
theorem Zone.inRange.moved {z : Zone} (h : z.inRange) {sp lp lt : Int} (hsp : Within 120 300 sp) (hlp : Within 100 1000 lp)
    (hlt : Within 0 1000 lt) : ({ z with setpoint := sp, lightPref := lp, lightTarget := lt } : Zone).inRange := by
  obtain ⟨-, -, -, hrest⟩ := h
  exact ⟨hsp, hlp, hlt, hrest⟩

theorem inRange_written {s : State} {z z' : Zone} (h : RecordWrite s z z') (hz : ZoneRanged s.role s.params.own z) :
    z'.inRange := by
  obtain ⟨hrange, hsorted, hlen, hgather, -⟩ := hz
  have hroll : ∀ e ∈ z.roll, e.inRange := hrange.2.2.2.2.2.2.2.2.2.2
  cases h with
  | adjust d _ =>
    obtain ⟨hset, hpref, htarget, hint, hdemand, hc1, hc2, -, -, hrest⟩ := hrange
    obtain ⟨hatemp, halight⟩ := clampDeltas_within (addDeltas z.adjust d)
    exact ⟨hset, hpref, htarget, hint, hdemand, hc1, hc2, hatemp, halight, hrest⟩
  | preset p _ =>
    obtain ⟨hset, hpref, htarget, hint, hdemand, hc1, hc2, hatemp, halight, -, hroll⟩ := hrange
    exact ⟨hset, hpref, htarget, hint, hdemand, hc1, hc2, hatemp, halight, presetField_filtered p, hroll⟩
  | gathered source t roll hrole htake =>
    obtain ⟨rfl, -⟩ := rollTake_some hsorted (hgather hrole) htake
    exact hrange.roll (rollWrite_inRange hsorted (tallyEntry_inRange source t) hroll)
  | entered source t roll _ htake =>
    obtain ⟨rfl, -⟩ := rollTake_some hsorted hlen htake
    exact hrange.roll (rollWrite_inRange hsorted (tallyEntry_inRange source t) hroll)
  | ownMarked _ =>
    refine hrange.roll fun e he => ?_
    obtain ⟨old, hold, rfl⟩ := List.mem_map.1 he
    split
    · exact hroll old hold
    · exact hroll old hold
  | residencyMet => exact hrange

/-- A roll in its bounds that has the head's own entry counts 1 to 250. -/
theorem RollFits.census {own : Station} {roll : List Entry} (h : RollFits .headRun own roll) :
    1 ≤ roll.length ∧ roll.length ≤ 250 := by
  obtain ⟨-, hlen, -, hown⟩ := h
  obtain ⟨e, he, -⟩ := (rollHas_iff _ _).1 (hown rfl)
  exact ⟨List.length_pos_of_mem he, hlen⟩

theorem inRange_closed {s : State} {z : Zone} (hs : Ranged s) (hrole : s.role = .headRun)
    (hz : ZoneRanged s.role s.params.own z) : (closedZone s z).inRange := by
  obtain ⟨⟨hset, hpref, -, hint, -, -, -, hatemp, halight, hpreset, hroll⟩, hfits⟩ := hz
  have hclosed : RollFits .headRun s.params.own (closedRoll s z) := hrole ▸ rollFits_closed hrole hfits
  obtain ⟨hc1, hc2⟩ := hclosed.census
  have hwritten := rollWrite_inRange hfits.1 (ownEntry_inRange hs.cell) hroll
  exact ⟨hset, hpref, lightFor_ranged hs.params _ _ hpref, integratorNext_within _ _ _ hint, clampDemand_within _, hc1, hc2,
    hatemp, halight, hpreset, ageRoll_inRange hwritten⟩

theorem zoneRanged_ordered {s : State} {z z' : Zone} (hs : Ranged s) (h : RecordOrder s z z')
    (hz : ZoneRanged s.role s.params.own z) : ZoneRanged s.role s.params.own z' := by
  refine ⟨?_, rollFits_ordered h hz.2⟩
  have hpref : Within 100 1000 z.lightPref := hz.1.2.1
  cases h with
  | occupied z1 _ hwrite _ =>
    obtain ⟨hset, hpref, -, hrest⟩ := inRange_written hwrite hz
    have hlight : Within 0 1000 (lightFor s.params .occupied s.floorMode z1.lightPref) := lightFor_ranged hs.params _ _ hpref
    exact ⟨hset, hpref, hlight, hrest⟩
  | moved d _ =>
    exact hz.1.moved (clampSetpoint_within _) (clampLightPref_within _)
      (lightFor_ranged hs.params _ _ (clampLightPref_within _))
  | preset p _ =>
    obtain ⟨hsp, hlp⟩ := presetField_filtered p
    exact hz.1.moved (getD_within hsp hz.1.1) (getD_within hlp hpref)
      (lightFor_ranged hs.params _ _ (getD_within hlp hpref))
  | closed hrole => exact inRange_closed hs hrole hz

theorem Ranged.headStep {s t : State} (hs : Ranged s) (h : HeadStep s t) : Ranged t := by
  cases h with
  | rest => exact hs
  | written z z' hz hwrite =>
    have hzone := hs.zone z hz
    have hwritten : ZoneRanged s.role s.params.own z' := ⟨inRange_written hwrite hzone, rollFits_written hwrite hzone.2⟩
    refine ⟨hs.params, hs.cell, hs.light, ?_⟩
    rintro _ ⟨⟩
    exact hwritten
  | ordered z z' hz horder => exact hs.queueOrder (zoneRanged_ordered hs horder (hs.zone z hz))

theorem emptyPreset_inRange : ({ setpoint := none, lightPref := none } : PendingPreset).inRange :=
  ⟨fun _ h => (Option.not_mem_none _ h).elim, fun _ h => (Option.not_mem_none _ h).elim⟩

/-- The birth gives a record in its ranges (R67). -/
theorem zoneRanged_born {s : State} {z : Zone} (hs : Ranged s) (hrole : s.role = .headGather)
    (hz : ZoneRanged s.role s.params.own z) : ZoneRanged .headRun s.params.own (bornZone s z) := by
  obtain ⟨⟨-, -, -, -, -, -, -, -, -, -, hroll⟩, hfits⟩ := hz
  have hborn := rollFits_born hrole hfits
  have htemp : Within (-50) 50 0 := by decide
  have hlight : Within (-500) 500 0 := by decide
  obtain ⟨hc1, hc2⟩ := hborn.census
  have hwritten := rollWrite_inRange hfits.1 (ownEntry_inRange hs.cell) hroll
  refine ⟨⟨clampSetpoint_within _, clampLightPref_within _, lightFor_ranged hs.params _ _ (clampLightPref_within _),
    clampDemand_within _, clampDemand_within _, hc1, hc2, htemp, hlight, emptyPreset_inRange,
    fun e he => ?_⟩, hborn⟩
  obtain ⟨old, hold, rfl⟩ := List.mem_map.1 he
  exact hwritten old hold

/-- The record at its creation takes the preferences and the pending nudge (R59). -/
theorem zoneRanged_new {s : State} (hs : CellRanged s.cell) : ZoneRanged .headGather s.params.own (newZone s) := by
  obtain ⟨-, -, hntemp, hnlight, -⟩ := hs.values
  have hlight : Within 0 1000 0 := by decide
  have hdemand : Within (-1000) 1000 0 := by decide
  have hroll : ∀ e ∈ ([] : List Entry), e.inRange := fun _ he => by cases he
  exact ⟨⟨hs.tempPref, hs.lightPref, hlight, hdemand, hdemand, le_refl 1, (by decide : 1 ≤ 250), hntemp, hnlight,
    emptyPreset_inRange, hroll⟩, by simp [RollFits, RollSorted, newZone]⟩

/-! ### The operations, block by block -/

/-- A record stays in its bounds in every role but the head roles as well. -/
theorem ZoneRanged.of_role {role role' : Role} {own : Station} {z : Zone} (h : ZoneRanged role own z)
    (hrole : role'.isHead = false) : ZoneRanged role' own z := by
  obtain ⟨hrange, hsorted, hlen, -, -⟩ := h
  exact ⟨hrange, hsorted, hlen, fun h => by simp [h, Role.isHead] at hrole, fun h => by simp [h, Role.isHead] at hrole⟩

/-- Ranges pass to a state of the same parameters, light, record and role with another cell in range. -/
theorem Ranged.of_cell {s t : State} (h : Ranged s) (hparams : t.params = s.params) (hlight : t.light = s.light)
    (hzone : t.zone = s.zone) (hrole : t.role = s.role) (hcell : CellRanged t.cell) : Ranged t := by
  refine ⟨by rw [hparams]; exact h.params, hcell, by rw [hlight]; exact h.light, ?_⟩
  rw [hzone, hrole, hparams]
  exact h.zone

/-- The entry to local control clamps what it computes (R137). -/
theorem Ranged.enterLocal {s : State} (h : Ranged s) : Ranged (enterLocal s) := by
  obtain ⟨tp, lp, i, d, hcell, rfl, rfl, hi, hd⟩ := enterLocal_cell s
  obtain ⟨houtput, htarget⟩ := enterLocal_light s
  obtain ⟨-, -, -, -, htemp, -, -, hlast⟩ := h.cell.values
  have hntemp : Within (-50) 50 0 := by decide
  have hnlight : Within (-500) 500 0 := by decide
  refine ⟨by simpa using h.params, ?_, ?_, by simpa using h.zone⟩
  · rw [hcell]
    exact ⟨⟨hd, hi, hntemp, hnlight, htemp, damperFor_within h.params.2.2.2 hd, reheatFor_within hd, hlast⟩,
      clampSetpoint_within _, clampLightPref_within _⟩
  · unfold LightRanged
    rw [houtput, htarget]
    exact ⟨lightFor_ranged h.params _ _ (clampLightPref_within _), h.light.2⟩

/-- Ranges pass to a state that differs in role and cell, with its record gone or its role no head role. -/
theorem Ranged.of_role {s t : State} (h : Ranged s) (hparams : t.params = s.params) (hlight : t.light = s.light)
    (hcell : CellRanged t.cell) (hzone : t.zone = none ∨ t.zone = s.zone ∧ t.role.isHead = false) : Ranged t := by
  refine ⟨by rw [hparams]; exact h.params, hcell, by rw [hlight]; exact h.light, fun z hz => ?_⟩
  obtain hnone | ⟨hsame, hrole⟩ := hzone
  · rw [hnone] at hz
    cases hz
  · rw [hparams]
    exact (h.zone z (hsame ▸ hz)).of_role hrole

theorem Ranged.enterMute {s : State} (h : Ranged s) : Ranged (enterMute s) := by
  obtain ⟨-, heq⟩ | ⟨-, heq⟩ := enterMute_cases s
  · rw [heq]; exact h
  · rw [heq]
    exact Ranged.enterLocal (h.of_role (s := s) rfl rfl ⟨h.cell.values, h.cell.tempPref, h.cell.lightPref⟩ (.inl rfl))

/-- An offered NUDGE writes no value that has a range. -/
theorem Ranged.offerNudge {s : State} (h : Ranged s) : Ranged (offerNudge s) := by
  obtain ⟨_, _, hcell, -⟩ := offerNudge_cell s
  exact h.of_cell (by simp) (by simp) (by simp) (by simp)
    (by rw [hcell]; exact ⟨h.cell.values, h.cell.tempPref, h.cell.lightPref⟩)

/-- A cell with another pending nudge in range. -/
theorem CellRanged.nudge {c c' : Cell} (h : CellRanged c) {d : Deltas}
    (hd : Within (-50) 50 d.temp ∧ Within (-500) 500 d.light)
    (hc' : c' = { c with nudge := d, outstanding := c'.outstanding, spent := c'.spent }) : CellRanged c' := by
  obtain ⟨hdemand, hint, -, -, hrest⟩ := h.values
  rw [hc']
  exact ⟨⟨hdemand, hint, hd.1, hd.2, hrest⟩, h.tempPref, h.lightPref⟩

theorem CellRanged.pendingNudge {c : Cell} (h : CellRanged c) : Within (-50) 50 c.nudge.temp ∧ Within (-500) 500 c.nudge.light := by
  obtain ⟨-, -, hntemp, hnlight, -⟩ := h.values
  exact ⟨hntemp, hnlight⟩

/-- What is left of the pending nudge after a flight is in its range (R134). -/
theorem remainder_within {c : Cell} (h : CellRanged c) (d : Deltas) :
    Within (-50) 50 (remainder c d).temp ∧ Within (-500) 500 (remainder c d).light := by
  unfold remainder
  split
  · exact h.pendingNudge
  · exact clampDeltas_within _

theorem Ranged.flightEnd {s : State} (h : Ranged s) : Ranged (flightEnd s) := by
  obtain ⟨nudge, outstanding, spent, hcell, hnudge⟩ := flightEnd_cell s
  refine h.of_cell (by simp) (by simp) (by simp) (by simp) (h.cell.nudge (d := nudge) ?_ (by rw [hcell]))
  obtain ⟨-, rfl, -⟩ | ⟨d, -, -, rfl | rfl, -⟩ := hnudge
  · exact h.cell.pendingNudge
  · exact h.cell.pendingNudge
  · exact remainder_within h.cell d

theorem Ranged.acceptOrder {s : State} (h : Ranged s) (o : Order) : Ranged (acceptOrder o s) := by
  obtain ⟨slots, light, answered, -, hlight, hcell⟩ := acceptOrder_cases o s
  have ho := clamped_inRange o
  have hstored : CellRanged (storedCell s.params o.clamped s.cell) := h.cell.stored h.params ho
  have hlit : LightRanged light := by
    obtain rfl | rfl := hlight
    · exact h.light
    · exact h.light.aimed (followTarget_within ho _)
  have hmember : Role.member.isHead = false := rfl
  obtain ⟨hrole, heq⟩ | ⟨-, heq⟩ := hcell
  · rw [heq]
    exact ⟨h.params, ⟨hstored.values, hstored.tempPref, hstored.lightPref⟩, hlit, h.zone⟩
  · rw [heq]
    exact Ranged.offerNudge ⟨h.params, ⟨hstored.values, hstored.tempPref, hstored.lightPref⟩, hlit,
      fun z hz => (h.zone z hz).of_role hmember⟩

theorem Ranged.adjustPreferences {s : State} (h : Ranged s) (d : Deltas) : Ranged (adjustPreferences d s) :=
  ⟨h.params, ⟨h.cell.values, clampSetpoint_within _, clampLightPref_within _⟩, h.light, h.zone⟩

theorem Ranged.localRound {s : State} (h : Ranged s) : Ranged { s with cell := localRoundCell s } := by
  obtain ⟨-, hint, hntemp, hnlight, htemp, -, -, hlast⟩ := h.cell.values
  have hd : Within (-1000) 1000 (localRoundCell s).lastDemand := clampDemand_within _
  exact ⟨h.params, ⟨⟨hd, integratorNext_within _ _ _ hint, hntemp, hnlight, htemp, damperFor_within h.params.2.2.2 hd,
    reheatFor_within hd, hlast⟩, h.cell.tempPref, h.cell.lightPref⟩, h.light, h.zone⟩

theorem Ranged.enterHeadGather {s : State} (h : Ranged s) : Ranged (enterHeadGather s) := by
  have hnew := zoneRanged_new h.cell (s := s)
  have ho := zoneOrder_inRange s.params.own .call hnew.1
  have hnone : Within (-50) 50 (0 : Int) ∧ Within (-500) 500 (0 : Int) := by decide
  have hcell := (h.cell.nudge (c' := { s.cell with nudge := ⟨0, 0⟩ }) hnone rfl).lastOrder ho
  rw [enterHeadGather_eq]
  refine ⟨h.params, ⟨hcell.values, hcell.tempPref, hcell.lightPref⟩, h.light, ?_⟩
  rintro _ ⟨⟩
  exact hnew

theorem Ranged.readSensor {s : State} (h : Ranged s) (r : SensorReading) : Ranged (readSensor r s) := by
  obtain ⟨hdemand, hint, hntemp, hnlight, -, hrest⟩ := h.cell.values
  rw [readSensor_eq]
  exact ⟨h.params, ⟨⟨hdemand, hint, hntemp, hnlight, readTemperature_within, hrest⟩, h.cell.tempPref, h.cell.lightPref⟩,
    h.light, h.zone⟩

theorem Ranged.keyPressed {s : State} (h : Ranged s) (key : Key) (hop : s.role.operating = true) : Ranged (keyPressed key s) := by
  have hpends : Ranged (addToNudge (keyStep key) s) :=
    h.of_cell rfl rfl rfl rfl (h.cell.nudge (clampDeltas_within _) rfl)
  obtain ⟨-, heq⟩ | ⟨-, heq⟩ | ⟨-, hstep⟩ | ⟨-, heq⟩ := keyPressed_cases key hop
  · rw [heq]; exact hpends
  · rw [heq]; exact hpends.offerNudge
  · exact h.headStep hstep
  · rw [heq]
    obtain heq' | heq' := pressLocal_cases (keyStep key) s
    · rw [heq']; exact h.adjustPreferences _
    · rw [heq']; exact (h.adjustPreferences _).formLocalTarget

theorem CellRanged.contact {c : Cell} (h : CellRanged c) (contact occupied : Bool) (hold : HoldTimer) :
    CellRanged { c with contact := contact, occupied := occupied, hold := hold } :=
  ⟨h.values, h.tempPref, h.lightPref⟩

theorem Ranged.occupied {s : State} (h : Ranged s) : Ranged (occupiedState s) :=
  h.of_cell (s := s) rfl rfl rfl rfl (h.cell.contact _ _ _)

theorem Ranged.contactAsserted {s : State} (h : Ranged s) : Ranged (contactAsserted s) := by
  obtain ⟨t, light, ht, heq, hlight⟩ := contactAsserted_cases s
  have hranged : Ranged t := by
    obtain rfl | ⟨slots, -, rfl⟩ | ⟨-, hstep⟩ := ht
    · exact h.occupied
    · exact h.occupied.of_cell rfl rfl rfl rfl h.occupied.cell
    · exact h.occupied.headStep hstep
  have hlit : LightRanged light := by
    obtain rfl | rfl | ⟨-, rfl⟩ := hlight
    · exact hranged.light
    · exact hranged.light.aimed hranged.cell.lightPref.lightLevel
    · exact hranged.light.aimed (lightFor_ranged hranged.params _ _ hranged.cell.lightPref)
  rw [heq]
  exact ⟨hranged.params, hranged.cell, hlit, hranged.zone⟩

theorem ranged_blocksKeep : BlocksKeep AllRanged where
  quietEnded := keptBy_of_ranged fun s _ h => by
    obtain heq | ⟨-, -, heq⟩ | ⟨-, -, heq⟩ := quietEnded_cases s
    · rw [heq]; exact h
    · rw [heq]; exact h.enterHeadGather
    · rw [heq]
      exact h.of_role (s := s) rfl rfl ⟨h.cell.values, h.cell.tempPref, h.cell.lightPref⟩ (.inr ⟨rfl, rfl⟩)
  gatherEnded := keptBy_of_ranged fun s _ h => by
    obtain heq | ⟨z, hz, hrole, heq⟩ := gatherEnded_cases s
    · rw [heq]; exact h
    · rw [heq]
      have hborn := zoneRanged_born h hrole (h.zone z hz)
      have ho := zoneOrder_inRange s.params.own .control hborn.1
      rw [queueOrder_control_eq]
      refine ⟨h.params, h.cell.follow h.params ho, h.light.aimed (followTarget_within ho _), ?_⟩
      rintro _ ⟨⟩
      exact hborn
  roundClosed := keptBy_of_ranged fun s _ h => h.headStep (.roundClosed s)
  headTally source t := keptBy_of_ranged fun s _ h => h.headStep (.headTally source t s)
  headNudge n := keptBy_of_ranged fun s _ h => h.headStep (.headNudge n s)
  filterPreset source p := keptBy_of_ranged fun s _ h => h.headStep (.filterPreset source p s)
  filterSchedule source code := keptBy_of_ranged fun s _ h => by
    have hmode : ∀ mode, Ranged { s with floorMode := mode } := fun _ => ⟨h.params, h.cell, h.light, h.zone⟩
    obtain heq | ⟨mode, heq | heq⟩ := filterSchedule_cases source code s
    · rw [heq]; exact h
    · rw [heq]; exact hmode mode
    · rw [heq]; exact (hmode mode).formLocalTarget
  residencyReached := keptBy_of_ranged fun s _ h => h.headStep (.residencyReached s)
  takeOrder o := keptBy_of_ranged fun s _ h => by
    obtain heq | ⟨-, -, -, heq⟩ := takeOrder_cases o s
    · rw [heq]; exact h
    · rw [heq]; exact h.acceptOrder o
  orderTimedOut := keptBy_of_ranged fun s _ h => by
    obtain heq | ⟨-, heq⟩ := orderTimedOut_cases s
    · rw [heq]; exact h
    · rw [heq]
      exact Ranged.enterLocal (h.of_role (s := s) rfl rfl h.cell (.inr ⟨rfl, rfl⟩))
  localRoundEnded := keptBy_of_ranged fun s _ h => by
    obtain heq | ⟨-, heq⟩ := localRoundEnded_cases s
    · rw [heq]; exact h
    · rw [heq]; exact h.localRound
  contactAsserted := keptBy_of_ranged fun _ _ h => h.contactAsserted
  contactReleased := keptBy_of_ranged fun s _ h => h.of_cell (s := s) rfl rfl rfl rfl (h.cell.contact _ s.cell.occupied _)
  holdEnded := keptBy_of_ranged fun s _ h => by
    have hended : Ranged { s with cell := { s.cell with occupied := false, hold := .stopped } } :=
      h.of_cell (s := s) rfl rfl rfl rfl (h.cell.contact s.cell.contact _ _)
    obtain heq | ⟨n, -, heq | heq⟩ := holdEnded_cases s
    · rw [heq]; exact h
    · rw [heq]; exact hended
    · rw [heq]; exact hended.formLocalTarget
  readSensor r := keptBy_of_ranged fun _ _ h => h.readSensor r
  keyPressed key := keptBy_of_ranged fun _ hop h => h.keyPressed key hop

theorem ranged_labelsKeep : LabelsKeep AllRanged where
  edges _ _ _ _ hs := hs
  queueMark _ _ hs := hs
  adoptEpoch epoch := keptBy_of_ranged fun s _ h => by
    unfold adoptEpoch
    by_cases hmute : s.role = .mute
    · rw [labelChange_of_mute _ hmute]
      exact ⟨h.params, h.cell, h.light, h.zone⟩
    · rw [labelChange_of_not_mute _ hmute]
      exact h.of_role (s := s) rfl rfl ⟨h.cell.values, h.cell.tempPref, h.cell.lightPref⟩ (.inl rfl)

theorem ranged_blindToLine : BlindToLine AllRanged where
  slotsLine _ _ _ hs := hs
  enterMute := keptBy_of_ranged fun _ _ h => h.enterMute
  flightEnd := keptBy_of_ranged fun _ _ h => h.flightEnd

/-! ### Resets, start, port and fade -/

/-- Values outside operation: the outputs and the light alone are not at 0 or absent. -/
theorem allRanged_rest {role : Role} {light : Light} {damper reheat : Int} {store : Store} {s : State}
    (hrole : role.operating = false) (hlight : LightRanged light) (hdamper : Within 0 1000 damper)
    (hreheat : Within 0 1000 reheat) : AllRanged (restState role light damper reheat store s) := by
  have hzero : Within (-1000) 1000 0 := by decide
  have htemp : Within (-50) 50 0 := by decide
  have hnlight : Within (-500) 500 0 := by decide
  exact ⟨fun hop => absurd (hrole.symm.trans hop) (by decide),
    ⟨hzero, hzero, htemp, hnlight, fun _ h => (Option.not_mem_none _ h).elim, hdamper, hreheat,
      fun _ h => (Option.not_mem_none _ h).elim⟩,
    hlight, fun _ h => (Option.not_mem_none _ h).elim⟩

theorem ranged_start (inputs : StartInputs) (s : State) : Ranged (startOperating inputs s) := by
  have hparams := loadParams_inRange s.store.bytes
  obtain ⟨-, -, -, htemp, hlight, -, hmin, hheat, hmax, htop⟩ := id hparams
  have hzero : Within (-1000) 1000 0 := by decide
  have hntemp : Within (-50) 50 0 := by decide
  have hnlight : Within (-500) 500 0 := by decide
  have hoff : Within 0 1000 0 := by decide
  have hflow : Within 0 1000 (loadParams s.store.bytes).minFlow := ⟨hmin, le_trans hheat (le_trans hmax htop)⟩
  rw [startOperating_eq]
  exact ⟨hparams, ⟨⟨hzero, hzero, hntemp, hnlight, readTemperature_within, hflow, hoff,
    fun _ h => (Option.not_mem_none _ h).elim⟩, htemp, hlight⟩, ⟨hlight.lightLevel, hoff⟩,
    fun _ h => (Option.not_mem_none _ h).elim⟩

/-- A driven output lies in 0..1000 (R180). -/
theorem outputField_within (data : List Byte) (i : Nat) : Within 0 1000 (outputField data i) := clamp_within (by decide) _

theorem ranged_storeKeeps : StoreKeeps AllRanged where
  resetStarted _ _ := by
    rw [resetStarted_eq]
    exact allRanged_rest rfl ⟨by decide, by decide⟩ (by decide) (by decide)
  enterService _ _ := by
    rw [enterService_eq]
    exact allRanged_rest rfl ⟨by decide, by decide⟩ (by decide) (by decide)
  enterUncommissioned _ _ := by
    rw [enterUncommissioned_eq]
    exact allRanged_rest rfl ⟨by decide, by decide⟩ (by decide) (by decide)
  startOperating inputs s _ _ := (ranged_start inputs s).all
  answer _ _ _ hs := hs
  beginWrite _ _ _ _ hs := hs
  drive data s _ hs := by
    obtain ⟨hloaded, ⟨hdemand, hint, hntemp, hnlight, htemp, -, -, hlast⟩, hlight, hzone⟩ := hs
    exact ⟨hloaded, ⟨hdemand, hint, hntemp, hnlight, htemp, outputField_within data 2, outputField_within data 4, hlast⟩,
      ⟨hlight.1, outputField_within data 0⟩, hzone⟩
  writeCompleted s hs := by
    obtain ⟨-, heq⟩ | ⟨data, -, heq⟩ := writeCompleted_cases s
    · rw [heq]; exact hs
    · rw [heq]; exact hs
  replyEnded s hs := by
    obtain heq | heq := replyEnded_cases s
    · rw [heq]; exact hs
    · rw [heq]; exact hs
  fadeStepped s hs := by
    obtain ⟨hloaded, hcell, ⟨htarget, houtput⟩, hzone⟩ := hs
    obtain ⟨output, phase, heq, hbetween⟩ := fadeStepped_cases s
    have hmoved : Within 0 1000 output := by omega
    rw [heq]
    exact ⟨hloaded, hcell, ⟨htarget, hmoved⟩, hzone⟩

theorem allRanged_advance {s : State} (hs : AllRanged s) : AllRanged (advance s) := by
  obtain ⟨hloaded, hcell, hlight, hzone⟩ := hs
  refine ⟨hloaded, hcell, ?_, fun z hz => ?_⟩
  · have hkept : (advance s).light.target = s.light.target ∧ (advance s).light.output = s.light.output := by
      simp only [advance, tickLight]
      split <;> exact ⟨rfl, rfl⟩
    unfold LightRanged
    rw [hkept.1, hkept.2]
    exact hlight
  · obtain ⟨old, hold, rfl⟩ := Option.map_eq_some_iff.1 hz
    exact hzone old hold

/-- Settles O7: every operation clamps what it computes or copies a value that is in its range, and the census counts a roll in its
bounds. -/
theorem stepKeepsRanges : Obligations.StepKeepsRanges := by
  intro s t ⟨hloaded, ⟨hcell, hlight⟩, hzone⟩ ⟨_, hroll⟩ h
  have hs : AllRanged s := ⟨hloaded, hcell, hlight, fun z hz => ⟨hzone z hz, hroll z hz⟩⟩
  obtain ⟨hloaded', hcell', hlight', hzone'⟩ := step_keeps (P := AllRanged) (fun _ _ _ hs => hs) (fun _ => allRanged_advance)
    (exec_keeps ranged_labelsKeep.edgesKeep ranged_blocksKeep ranged_blindToLine.lineKeeps ranged_storeKeeps) hs h
  exact ⟨hloaded', ⟨hcell', hlight'⟩, fun z hz => (hzone' z hz).1⟩

end Sys2Proof.Machine
end

section
/-! PROOF. What commands leave alone: the queue and the count of ties, the stored record, the parameters, the edge kinds and the
neighbour numbers; and what rests outside operation. -/

namespace Sys2Proof.Machine

/-! ### Steps and answers -/

/-- Settles O1: by the definition of a step on a queue that is not empty. -/
theorem stepRunsTheFrontCommand : Obligations.StepRunsTheFrontCommand := by
  intro c rest s hqueue
  unfold step
  rw [hqueue]

/-- Every command answers a next state: no arm of the meaning faults or refuses. -/
theorem exec_next (c : Instr) (s : State) : ∃ t, exec c s = .next t := by
  cases c <;> exact ⟨_, rfl⟩

/-! ### The queue and the ties -/

/-- The count of ties and the queue are those given. -/
def Queued (ties : Nat) (pending : List Instr) (s : State) : Prop := s.ties = ties ∧ s.pending = pending

theorem queued_readsLabels (n : Nat) (q : List Instr) : ReadsLabels (Queued n q) := fun _ _ _ h hs =>
  ⟨h.ties.trans hs.1, h.pending.trans hs.2⟩

theorem queued_releaseHold {n : Nat} {q : List Instr} {s : State} (hs : Queued n q s) : Queued n q (releaseHold s) := by
  have h := releaseHold_relabelled s
  obtain ⟨-, -, -, -, -, -, -, -, -, -, -, -, hties, hpending⟩ := copiedTracks_frame s
  exact ⟨h.ties.trans (hties.trans hs.1), h.pending.trans (hpending.trans hs.2)⟩

theorem queued_decayEnded {n : Nat} {q : List Instr} {s : State} (hs : Queued n q s) : Queued n q (decayEnded s) := by
  obtain ⟨-, heq⟩ | ⟨-, -, -, heq⟩ | ⟨-, -, heq⟩ := decayEnded_cases s
  · rw [heq]; exact hs
  · rw [heq]; exact queued_releaseHold (s := { s with churn := decayedChurn s.params s.churn }) hs
  · rw [heq]; exact hs

theorem queued_churnEvent {n : Nat} {q : List Instr} {s : State} (hs : Queued n q s) : Queued n q (churnEvent s) := by
  simpa [Queued] using hs

theorem queued_reevaluate {n : Nat} {q : List Instr} {s : State} (d : Dir) (hs : Queued n q s) : Queued n q (reevaluate d s) := by
  simpa [Queued] using hs

/-- Of the Edge Monitor's and the Churn Monitor's operations a settle expiry alone may decide a tie. -/
theorem queued_edgesKeepFor {n : Nat} {q : List Instr} {c : Instr} (hc : ∀ d, c ≠ .settleExpiry d) :
    EdgesKeepFor c (Queued n q) where
  rawChanged d level _ s _ hs := by
    unfold rawChanged
    dsimp only
    split
    · exact hs
    · exact hs
  settleEnded d heq := absurd heq (hc d)
  burstStopped _ _ _ hs := hs
  decayEnded _ _ _ hs := queued_decayEnded hs
  silenceEnded d _ s _ hs := by
    obtain heq | ⟨-, heq⟩ := silenceEnded_cases d s
    · rw [heq]; exact hs
    · rw [heq]; exact queued_reevaluate d (s := setEdge d (lostEdge (edgeAt s d)) s) hs
  heard d s _ hs := by simpa [Queued] using hs
  takeMark d a s _ hs := by simpa [Queued] using hs

theorem queued_storeKeeps (n : Nat) (q : List Instr) : StoreKeeps (Queued n q) where
  resetStarted _ hs := hs
  enterService _ hs := hs
  enterUncommissioned _ hs := hs
  startOperating inputs s _ hs := by rw [startOperating_eq]; exact hs
  answer _ _ _ hs := hs
  beginWrite _ _ _ _ hs := hs
  drive _ _ _ hs := hs
  writeCompleted s hs := by
    obtain ⟨-, heq⟩ | ⟨data, -, heq⟩ := writeCompleted_cases s
    · rw [heq]; exact hs
    · rw [heq]; exact hs
  replyEnded s hs := by
    obtain heq | heq := replyEnded_cases s
    · rw [heq]; exact hs
    · rw [heq]; exact hs
  fadeStepped s hs := by
    obtain ⟨output, phase, heq, -⟩ := fadeStepped_cases s
    rw [heq]; exact hs

/-- A churn event handed on decides a tie only where it meets a decay expiry (R30). -/
theorem queued_handChurnEvent (s : State) : Queued s.ties s.pending (handChurnEvent s)
    ∨ Queued (s.ties + 1) s.pending (handChurnEvent s) ∧ s.churn.burst = none ∧ s.churn.decay = some 0 := by
  have htied : Queued (s.ties + 1) s.pending { s with ties := s.ties + 1 } := ⟨rfl, rfl⟩
  obtain heq | ⟨hburst, hdecay, heq | heq⟩ := handChurnEvent_cases s
  · rw [heq]; exact .inl (queued_churnEvent ⟨rfl, rfl⟩)
  · rw [heq]; exact .inr ⟨queued_churnEvent htied, hburst, hdecay⟩
  · rw [heq]; exact .inr ⟨queued_churnEvent (queued_decayEnded htied), hburst, hdecay⟩

/-- A settle expiry decides a tie only where its churn event meets a decay expiry. -/
theorem queued_settleEnded (d : Dir) (s : State) : Queued s.ties s.pending (settleEnded d s)
    ∨ Queued (s.ties + 1) s.pending (settleEnded d s) ∧ s.churn.burst = none ∧ s.churn.decay = some 0 := by
  by_cases howned : (edgeAt s d).kind = .trackOwned ∧ (edgeAt s d).settle.isSome = true
  · have hevent := queued_handChurnEvent (setEdge d (settledEdge s.churn.hold (edgeAt s d)) s)
    rw [settleEnded_of_trackOwned howned.1 howned.2]
    split
    · exact hevent
    · exact hevent.imp (queued_reevaluate d) fun h => ⟨queued_reevaluate d h.1, h.2⟩
  · rw [settleEnded_of_not howned]
    exact .inl ⟨rfl, rfl⟩

/-- Settles O3: a settle expiry apart, no operation reads or writes queue and ties. -/
theorem everyCommandLeavesTheQueue : Obligations.EveryCommandLeavesTheQueue := by
  intro c s
  obtain ⟨t, ht⟩ := exec_next c s
  refine ⟨t, ht, ?_⟩
  by_cases hsettle : ∃ d, c = .settleExpiry d
  · obtain ⟨d, rfl⟩ := hsettle
    obtain ⟨-, heq⟩ | ⟨-, heq⟩ := whenOperating_cases (settleEnded d) s
    · cases heq.symm.trans ht
      obtain ⟨hties, hpending⟩ | ⟨⟨hties, hpending⟩, hmet⟩ := queued_settleEnded d s
      · exact ⟨hpending, .inl hties⟩
      · exact ⟨hpending, .inr ⟨hties, ⟨d, rfl⟩, hmet⟩⟩
    · cases heq.symm.trans ht
      exact ⟨rfl, .inl rfl⟩
  · have hsame := queued_readsLabels s.ties s.pending
    obtain ⟨hties, hpending⟩ := exec_keeps_for (P := Queued s.ties s.pending)
      (queued_edgesKeepFor fun d heq => hsettle ⟨d, heq⟩) hsame.blocksKeep hsame.lineKeeps
      ((queued_storeKeeps _ _).toFor c) ⟨rfl, rfl⟩ ht
    exact ⟨hpending, .inl hties⟩

/-! ### Outside operation -/

/-- Settles O5: the commands that are left are those of the blocks, which run in operation alone. -/
theorem blocksRestOutsideOperation : Obligations.BlocksRestOutsideOperation := by
  refine ⟨fun r => by cases r <;> decide, ?_⟩
  intro c s hrest hreset hstart hread hwrite hdrive hunknown hincomplete hcomplete hsent hfade
  cases c with
  | powerOnReset inputs => exact absurd rfl (hstart inputs)
  | readRecord data => exact absurd rfl (hread data)
  | writeRecord data => exact absurd rfl (hwrite data)
  | driveOutputs data => exact absurd rfl (hdrive data)
  | unknownCommand code data => exact absurd rfl (hunknown code data)
  | messageIncomplete bytes => exact absurd rfl (hincomplete bytes)
  | writeComplete => exact absurd rfl hcomplete
  | replySent => exact absurd rfl hsent
  | resetStart => exact absurd rfl hreset
  | fadeStep => simp [exec, execFadeStep, hrest, hfade rfl]
  | burstTimerExpiry => rw [exec, execBurstTimerExpiry, whenOperating_rest hrest]
  | backoffEnd => rw [exec, execBackoffEnd, whenOperating_rest hrest]
  | promotion slot => rw [exec, execPromotion, whenOperating_rest hrest]
  | _ => exact whenOperating_rest hrest _

/-! ### The stored record and the parameters -/

/-- The stored bytes are those given, and so is the written mark unless `c` is a WRITE_RECORD that has cleared it. -/
def RecordKept (c : Instr) (bytes : List Byte) (written : Bool) (s : State) : Prop :=
  s.store.bytes = bytes
  ∧ (s.store.written = written ∨ ∃ data, c = .writeRecord data ∧ recordCheck data = true ∧ s.store.written = false)

theorem recordKept_labelsKeep (c : Instr) (bytes : List Byte) (written : Bool) : LabelsKeep (RecordKept c bytes written) where
  edges _ _ _ _ hs := hs
  queueMark _ _ hs := hs
  adoptEpoch epoch s _ hs := by simpa [RecordKept, adoptEpoch] using hs

theorem recordKept_readsLabels (c : Instr) (bytes : List Byte) (written : Bool) : ReadsLabels (RecordKept c bytes written) :=
  fun _ _ _ h hs => by
    unfold RecordKept
    rw [h.store]
    exact hs

theorem recordKept_storeKeepsFor {c : Instr} (bytes : List Byte) (written : Bool) (hc : c ≠ .writeComplete) :
    StoreKeepsFor c (RecordKept c bytes written) where
  resetStarted _ _ hs := hs
  enterService _ _ _ hs := hs
  enterUncommissioned _ _ _ hs := hs
  startOperating inputs _ s _ hs := by rw [startOperating_eq]; exact hs
  answer _ _ _ hs := hs
  beginWrite data heq hcheck _ _ _ hs := ⟨hs.1, .inr ⟨data, heq, hcheck, rfl⟩⟩
  drive _ _ _ _ hs := hs
  writeCompleted heq := absurd heq hc
  replyEnded s hs := by
    obtain heq | heq := replyEnded_cases s
    · rw [heq]; exact hs
    · rw [heq]; exact hs
  fadeStepped s hs := by
    obtain ⟨output, phase, heq, -⟩ := fadeStepped_cases s
    rw [heq]; exact hs

/-- Parameters, edge kinds and neighbour numbers are those of `s`. -/
def FittedAs (s t : State) : Prop :=
  t.params = s.params ∧ ∀ d, (edgeAt t d).kind = (edgeAt s d).kind ∧ (edgeAt t d).neighbour = (edgeAt s d).neighbour

theorem params_labelsKeep (p : Params) : LabelsKeep fun s => s.params = p where
  edges _ _ _ _ hs := hs
  queueMark _ _ hs := hs
  adoptEpoch epoch s _ hs := by simpa [adoptEpoch] using hs

/-- No write into an entry touches its kind or its neighbour number. -/
theorem entryKeeps_kind (kind : EdgeKind) (neighbour : Option Station) :
    EntryKeeps fun e => e.kind = kind ∧ e.neighbour = neighbour where
  raw _ _ _ _ h := h
  settled _ _ _ _ h := h
  settledAnew _ _ _ h := h
  released e h := by
    unfold releasedEdge
    split <;> exact h
  lost _ h := h
  heard _ _ h := h
  heardAnew _ h := h
  stored _ _ h := h

theorem fittedAs_edgesKeep (s : State) : EdgesKeep (FittedAs s) := by
  have hparams := (params_labelsKeep s.params).edgesKeep
  have hedges := EntryKeeps.edgesKeep (R := fun d e => e.kind = (edgeAt s d).kind ∧ e.neighbour = (edgeAt s d).neighbour)
    fun d => entryKeeps_kind _ _
  exact
    { rawChanged := fun d level t hop ht => ⟨hparams.rawChanged d level t hop ht.1, hedges.rawChanged d level t hop ht.2⟩
      settleEnded := fun d t hop ht => ⟨hparams.settleEnded d t hop ht.1, hedges.settleEnded d t hop ht.2⟩
      burstStopped := fun _ _ ht => ht
      decayEnded := fun t hop ht => ⟨hparams.decayEnded t hop ht.1, hedges.decayEnded t hop ht.2⟩
      silenceEnded := fun d t hop ht => ⟨hparams.silenceEnded d t hop ht.1, hedges.silenceEnded d t hop ht.2⟩
      heard := fun d t hop ht => ⟨hparams.heard d t hop ht.1, hedges.heard d t hop ht.2⟩
      takeMark := fun d a t hop ht => ⟨hparams.takeMark d a t hop ht.1, hedges.takeMark d a t hop ht.2⟩ }

theorem fittedAs_readsLabels (s : State) : ReadsLabels (FittedAs s) := fun _ _ _ h ht =>
  ⟨h.params.trans ht.1, fun d => by rw [edgeAt_congr h.edges]; exact ht.2 d⟩

theorem fittedAs_storeKeepsFor {c : Instr} (s : State) (hreset : c ≠ .resetStart) (hstart : ∀ i, c ≠ .powerOnReset i) :
    StoreKeepsFor c (FittedAs s) where
  resetStarted heq := absurd heq hreset
  enterService inputs heq := absurd heq (hstart inputs)
  enterUncommissioned inputs heq := absurd heq (hstart inputs)
  startOperating inputs heq := absurd heq (hstart inputs)
  answer _ _ _ ht := ht
  beginWrite _ _ _ _ _ _ ht := ht
  drive _ _ _ _ ht := ht
  writeCompleted _ t ht := by
    obtain ⟨-, heq⟩ | ⟨data, -, heq⟩ := writeCompleted_cases t
    · rw [heq]; exact ht
    · rw [heq]; exact ht
  replyEnded t ht := by
    obtain heq | heq := replyEnded_cases t
    · rw [heq]; exact ht
    · rw [heq]; exact ht
  fadeStepped t ht := by
    obtain ⟨output, phase, heq, -⟩ := fadeStepped_cases t
    rw [heq]; exact ht

/-- Settles O6: store, parameters, kinds and neighbour numbers are written by the named commands alone. -/
theorem recordAndParametersAreKept : Obligations.RecordAndParametersAreKept := by
  intro c s t h
  constructor
  · intro hc
    have hsame := recordKept_readsLabels c s.store.bytes s.store.written
    exact exec_keeps_for ((recordKept_labelsKeep c _ _).edgesKeep.toFor c) hsame.blocksKeep hsame.lineKeeps
      (recordKept_storeKeepsFor _ _ hc) ⟨rfl, .inl rfl⟩ h
  · intro hreset hstart
    exact exec_keeps_for ((fittedAs_edgesKeep s).toFor c) (fittedAs_readsLabels s).blocksKeep (fittedAs_readsLabels s).lineKeeps
      (fittedAs_storeKeepsFor s hreset hstart) ⟨rfl, fun _ => ⟨rfl, rfl⟩⟩ h

end Sys2Proof.Machine
end

section
/-! PROOF. MUTE (R54, R149, R150): what stands from one state to every later one until a reset. -/

namespace Sys2Proof.Machine

/-- Every slot of `b` holds a frame where that of `a` does. -/
structure SlotsHeld (a b : Slots) : Prop where
  order : a.order.isSome = true → b.order.isSome = true
  mark : a.mark.isSome = true → b.mark.isSome = true
  nudge : a.nudge.isSome = true → b.nudge.isSome = true
  tally : a.tally.isSome = true → b.tally.isSome = true

/-- Content handed to slots lets no frame leave. -/
theorem SlotsHeld.handed {a b c : Slots} (h : SlotsHeld a b) (hbc : SlotsHanded b c) : SlotsHeld a c := by
  have hslot : ∀ {α : Type} {f g : Slot α}, (g = f ∨ ∃ x, g = handSlot x f) → f.isSome = true → g.isSome = true := by
    rintro α f g (rfl | ⟨x, rfl⟩) hf
    · exact hf
    · exact handSlot_isSome x f
  exact ⟨fun ha => hslot hbc.order (h.order ha), fun ha => hslot hbc.mark (h.mark ha), fun ha => hslot hbc.nudge (h.nudge ha),
    fun ha => hslot hbc.tally (h.tally ha)⟩

theorem promoteSlot_isSome {α : Type} (f : Slot α) : (promoteSlot f).isSome = f.isSome := by
  cases f <;> rfl

theorem SlotsHeld.promoted {a b : Slots} (h : SlotsHeld a b) (id : SlotId) : SlotsHeld a (mapSlot promoteSlot id b) := by
  obtain ⟨ho, hm, hn, ht⟩ := h
  cases id with
  | order => exact ⟨fun ha => (promoteSlot_isSome _).trans (ho ha), hm, hn, ht⟩
  | mark => exact ⟨ho, fun ha => (promoteSlot_isSome _).trans (hm ha), hn, ht⟩
  | nudge => exact ⟨ho, hm, fun ha => (promoteSlot_isSome _).trans (hn ha), ht⟩
  | tally => exact ⟨ho, hm, hn, fun ha => (promoteSlot_isSome _).trans (ht ha)⟩

/-- `t` is in MUTE and has driven, drawn and dropped nothing since `s`. -/
structure MuteSince (s t : State) : Prop where
  role : t.role = .mute
  flag : t.line.mute = true
  attempt : t.line.attempt = none
  generator : t.line.generator = s.line.generator
  unheard : t.line.unheard = s.line.unheard
  ack : t.line.ackDriven = true → s.line.ackDriven = true
  slots : SlotsHeld s.slots t.slots

namespace MuteSince

variable {s t u : State}

theorem refl (hrole : s.role = .mute) (hline : s.lineSound) : MuteSince s s := by
  obtain ⟨-, -, -, -, -, hflag, hidle⟩ := hline
  exact ⟨hrole, hflag.2 hrole, hidle hrole, rfl, rfl, id, ⟨id, id, id, id⟩⟩

theorem operating (h : MuteSince s t) : t.role.operating = true := by
  rw [h.role]
  rfl

/-- The property passes to a state with the same role and line and with content handed to slots at most. -/
theorem of_handed (h : MuteSince s t) (hrole : u.role = t.role) (hline : u.line = t.line) (hslots : SlotsHanded t.slots u.slots) :
    MuteSince s u :=
  ⟨hrole.trans h.role, hline ▸ h.flag, hline ▸ h.attempt, hline ▸ h.generator, hline ▸ h.unheard, hline ▸ h.ack,
    h.slots.handed hslots⟩

theorem of_same (h : MuteSince s t) (hrole : u.role = t.role) (hline : u.line = t.line) (hslots : u.slots = t.slots) :
    MuteSince s u :=
  h.of_handed hrole hline (hslots ▸ .refl _)

/-- The property passes to another view, assembler, backoff or beacon. -/
theorem of_line {line : Line} (h : MuteSince s t) (hflag : line.mute = t.line.mute) (hattempt : line.attempt = t.line.attempt)
    (hgen : line.generator = t.line.generator) (hunheard : line.unheard = t.line.unheard)
    (hack : line.ackDriven = true → t.line.ackDriven = true) : MuteSince s { t with line := line } :=
  ⟨h.role, hflag.trans h.flag, hattempt.trans h.attempt, hgen.trans h.generator, hunheard.trans h.unheard,
    fun hd => h.ack (hack hd), h.slots⟩

theorem setTarget (h : MuteSince s t) (x : Int) : MuteSince s (setTarget x t) :=
  h.of_same (by simp) (by simp) (by simp)

/-- A head's step in MUTE writes into a record at most: its ORDERs are of HEAD_RUN. -/
theorem headStep (h : MuteSince s t) (hstep : HeadStep t u) : MuteSince s u := by
  cases hstep with
  | rest => exact h
  | written => exact h.of_same (t := t) rfl rfl rfl
  | ordered z z' _ horder =>
    have hrole : t.role = .headRun := by cases horder <;> assumption
    cases hrole.symm.trans h.role

theorem enterMute (h : MuteSince s t) : MuteSince s (enterMute t) := by
  obtain ⟨-, heq⟩ | ⟨hrole, -⟩ := enterMute_cases t
  · rw [heq]; exact h
  · exact absurd h.role hrole

theorem queueMark (h : MuteSince s t) : MuteSince s (queueMark t) := h.of_handed rfl rfl (.handMark _ _)

theorem becomeIdle (h : MuteSince s t) : MuteSince s (becomeIdle t) := h.of_line (t := t) rfl rfl rfl rfl id

theorem acknowledgeFrame (h : MuteSince s t) : MuteSince s (acknowledgeFrame t) :=
  h.of_line (t := t) rfl rfl rfl rfl fun hd => by simp [h.flag] at hd

end MuteSince

theorem muteSince_labelsKeep (s : State) : LabelsKeep (MuteSince s) where
  edges t _ _ _ h := h.of_same (t := t) rfl rfl rfl
  queueMark _ _ h := h.queueMark
  adoptEpoch epoch t _ h := by
    rw [adoptEpoch, labelChange_of_mute _ h.role]
    exact MuteSince.queueMark (h.of_same (t := t) rfl rfl rfl)

theorem muteSince_blocksKeep (s : State) : BlocksKeep (MuteSince s) where
  quietEnded t _ h := by
    obtain heq | ⟨hrole, -⟩ | ⟨hrole, -⟩ := quietEnded_cases t
    · rw [heq]; exact h
    · cases hrole.symm.trans h.role
    · cases hrole.symm.trans h.role
  gatherEnded t _ h := by
    obtain heq | ⟨z, -, hrole, -⟩ := gatherEnded_cases t
    · rw [heq]; exact h
    · cases hrole.symm.trans h.role
  roundClosed t _ h := h.headStep (.roundClosed t)
  headTally source tally t _ h := h.headStep (.headTally source tally t)
  headNudge n t _ h := h.headStep (.headNudge n t)
  filterPreset source p t _ h := h.headStep (.filterPreset source p t)
  filterSchedule source code t _ h := by
    have hmode : ∀ mode, MuteSince s { t with floorMode := mode } := fun mode => h.of_same (t := t) rfl rfl rfl
    obtain heq | ⟨mode, heq | heq⟩ := filterSchedule_cases source code t
    · rw [heq]; exact h
    · rw [heq]; exact hmode mode
    · rw [heq]; exact (hmode mode).setTarget _
  residencyReached t _ h := h.headStep (.residencyReached t)
  takeOrder o t _ h := by
    obtain heq | ⟨haccepts, -⟩ := takeOrder_cases o t
    · rw [heq]; exact h
    · rw [h.role] at haccepts; cases haccepts
  orderTimedOut t _ h := by
    obtain heq | ⟨hrole | hrole, -⟩ := orderTimedOut_cases t
    · rw [heq]; exact h
    · cases hrole.symm.trans h.role
    · cases hrole.symm.trans h.role
  localRoundEnded t _ h := by
    obtain heq | ⟨-, heq⟩ := localRoundEnded_cases t
    · rw [heq]; exact h
    · rw [heq]; exact h.of_same (t := t) rfl rfl rfl
  contactAsserted t _ h := by
    have hocc : MuteSince s (occupiedState t) := h.of_same (t := t) rfl rfl rfl
    obtain ⟨u, light, hu, heq, -⟩ := contactAsserted_cases t
    rw [heq]
    obtain rfl | ⟨slots, hslots, rfl⟩ | ⟨hrole, -⟩ := hu
    · exact hocc.of_same (t := occupiedState t) rfl rfl rfl
    · exact h.of_handed (t := t) rfl rfl hslots
    · cases hrole.symm.trans h.role
  contactReleased t _ h := h.of_same (t := t) rfl rfl rfl
  holdEnded t _ h := by
    have hended : MuteSince s { t with cell := { t.cell with occupied := false, hold := .stopped } } :=
      h.of_same (t := t) rfl rfl rfl
    obtain heq | ⟨n, -, heq | heq⟩ := holdEnded_cases t
    · rw [heq]; exact h
    · rw [heq]; exact hended
    · rw [heq]; exact hended.setTarget _
  readSensor r t _ h := h.of_same (by simp) (by simp) (by simp)
  keyPressed key t hop h := by
    have hadjust : MuteSince s (adjustPreferences (keyStep key) t) := h.of_same (t := t) rfl rfl rfl
    obtain ⟨hrole | hrole, -⟩ | ⟨hrole, -⟩ | ⟨-, hstep⟩ | ⟨-, heq⟩ := keyPressed_cases key hop
    · cases hrole.symm.trans h.role
    · cases hrole.symm.trans h.role
    · cases hrole.symm.trans h.role
    · exact h.headStep hstep
    · rw [heq]
      obtain heq' | heq' := pressLocal_cases (keyStep key) t
      · rw [heq']; exact hadjust
      · rw [heq']; exact hadjust.setTarget _

/-- In MUTE no attempt is in progress and none begins (R144, R149). -/
theorem muteSince_lineKeeps (s : State) : LineKeeps (MuteSince s) where
  acknowledgeFrame _ _ h := h.acknowledgeFrame
  ownFrame _ _ _ h := h.enterMute
  duplicateDetected t _ h := by rw [duplicateDetected, h.attempt]; exact h
  attemptStarted t _ h := by
    have hnot : mayBegin t = false := by simp [mayBegin, h.flag]
    rw [attemptStarted, hnot]
    exact h
  arbitrationLost t _ h := by rw [arbitrationLost, h.attempt]; exact h
  attemptAcknowledged t _ h := by rw [attemptAcknowledged, h.attempt]; exact h
  attemptUnacknowledged t _ h := by rw [attemptUnacknowledged, h.attempt]; exact h
  backoffEnded t _ h := h.of_line (t := t) rfl rfl rfl rfl id
  gapEnded t _ h := by
    unfold gapEnded
    split
    · exact h.becomeIdle
    · exact h
  stepLost t _ h := by
    unfold stepLost
    split
    · exact h.of_line (t := t) rfl rfl rfl rfl id
    · exact h
  silenceRead t _ h := by
    unfold silenceRead
    split
    · exact h.becomeIdle
    · exact h
  promoted id t _ h := ⟨h.role, h.flag, h.attempt, h.generator, h.unheard, h.ack, h.slots.promoted id⟩
  beaconEnded t _ h := by
    have hqueued : MuteSince s (if t.slots.mark = none then queueMark t else t) := by
      split
      · exact h.queueMark
      · exact h
    unfold beaconEnded
    split
    · exact hqueued.of_line rfl rfl rfl rfl id
    · exact h
  startBitRead t _ h := by
    unfold startBitRead
    split
    · exact h.of_line (t := t) rfl rfl rfl rfl id
    · exact h

theorem muteSince_storeKeepsFor {c : Instr} (s : State) (hreset : c ≠ .resetStart) (hstart : ∀ i, c ≠ .powerOnReset i) :
    StoreKeepsFor c (MuteSince s) where
  resetStarted heq := absurd heq hreset
  enterService inputs heq := absurd heq (hstart inputs)
  enterUncommissioned inputs heq := absurd heq (hstart inputs)
  startOperating inputs heq := absurd heq (hstart inputs)
  answer _ _ t h := h.of_same (t := t) rfl rfl rfl
  beginWrite _ _ _ t _ _ h := h.of_same (t := t) rfl rfl rfl
  drive _ _ t _ h := h.of_same (t := t) rfl rfl rfl
  writeCompleted _ t h := by
    obtain ⟨-, heq⟩ | ⟨data, -, heq⟩ := writeCompleted_cases t
    · rw [heq]; exact h
    · rw [heq]; exact h.of_same (t := t) rfl rfl rfl
  replyEnded t h := by
    obtain heq | heq := replyEnded_cases t
    · rw [heq]; exact h
    · rw [heq]; exact h.of_same (t := t) rfl rfl rfl
  fadeStepped t h := by
    obtain ⟨output, phase, heq, -⟩ := fadeStepped_cases t
    rw [heq]; exact h.of_same (t := t) rfl rfl rfl

/-- A frame received in MUTE, once the resynchronisation silence has been read, leaves the acknowledgement slot undriven (R149,
R150). -/
theorem receiveFrame_mute {s t : State} {source : Station} {handler : Option Dir → State → State} (h : MuteSince s s)
    (hview : s.line.view ≠ .resync) (hhandler : ∀ nd, KeptBy (MuteSince (acknowledgeFrame s)) (handler nd))
    (hexec : whenOperating (receiveFrame source handler) s = .next t) : t.line.ackDriven = false := by
  have hack : MuteSince (acknowledgeFrame s) (acknowledgeFrame s) :=
    ⟨h.role, h.flag, h.attempt, rfl, rfl, id, ⟨id, id, id, id⟩⟩
  have hundriven : (acknowledgeFrame s).line.ackDriven = false := by simp [h.flag]
  have hlast : MuteSince (acknowledgeFrame s) (receiveFrame source handler s) := by
    unfold receiveFrame
    rw [if_neg hview, h.attempt]
    split
    · exact hack.enterMute
    · exact hhandler _ _ hack.operating hack
  rw [whenOperating_of h.operating] at hexec
  cases hexec
  rw [← Bool.not_eq_true]
  intro hdriven
  exact absurd (hlast.ack hdriven) (by rw [hundriven]; decide)

/-- The seven commands that are received frames, with the handler each is routed to. -/
theorem exec_received {s : State} {c : Instr} (hc : (∃ source p, c = .markReceived source p)
      ∨ (∃ source p, c = .tallyReceived source p) ∨ (∃ source p, c = .orderReceived source p)
      ∨ (∃ source p, c = .nudgeReceived source p) ∨ (∃ source p, c = .presetReceived source p)
      ∨ (∃ source p, c = .scheduleReceived source p) ∨ (∃ source k n, c = .unknownKindFrame source k n)) :
    ∃ source handler, exec c s = whenOperating (receiveFrame source handler) s
      ∧ ∀ {P : State → Prop}, EdgesKeep P → BlocksKeep P → ∀ nd, KeptBy P (handler nd) := by
  obtain ⟨source, p, rfl⟩ | ⟨source, p, rfl⟩ | ⟨source, p, rfl⟩ | ⟨source, p, rfl⟩ | ⟨source, p, rfl⟩ | ⟨source, p, rfl⟩
    | ⟨source, k, n, rfl⟩ := hc
  · refine ⟨source, _, rfl, fun hE hB nd => ?_⟩
    cases nd with
    | none => exact fun _ _ hs => hs
    | some d => exact hE.takeMark d _
  · exact ⟨source, _, rfl, fun hE hB => keptBy_afterHearing hE.heard (hB.headTally source _)⟩
  · exact ⟨source, _, rfl, fun hE hB => keptBy_afterHearing hE.heard (hB.takeOrder _)⟩
  · exact ⟨source, _, rfl, fun hE hB => keptBy_afterHearing hE.heard (hB.headNudge _)⟩
  · exact ⟨source, _, rfl, fun hE hB => keptBy_afterHearing hE.heard (hB.filterPreset source _)⟩
  · exact ⟨source, _, rfl, fun hE hB => keptBy_afterHearing hE.heard (hB.filterSchedule source _)⟩
  · exact ⟨source, _, rfl, fun hE _ => keptBy_hearSource hE.heard⟩

/-- Settles O4: no operation but a reset leaves MUTE, and in MUTE none drives, draws or drops anything. -/
theorem muteLastsUntilReset : Obligations.MuteLastsUntilReset := by
  intro c s t hrole hline hexec hreset hstart
  have hs : MuteSince s s := .refl hrole hline
  have ht : MuteSince s t := exec_keeps_for ((muteSince_labelsKeep s).edgesKeep.toFor c) (muteSince_blocksKeep s)
    (muteSince_lineKeeps s) (muteSince_storeKeepsFor s hreset hstart) hs hexec
  refine ⟨ht.role, ht.flag, ht.attempt, ht.generator, ht.unheard, ht.ack, fun hview hreceived => ?_, ht.slots.order, ht.slots.mark,
    ht.slots.nudge, ht.slots.tally⟩
  obtain ⟨source, handler, heq, hhandler⟩ := exec_received (s := s) hreceived
  exact receiveFrame_mute hs hview (hhandler (muteSince_labelsKeep _).edgesKeep (muteSince_blocksKeep _)) (heq.symm.trans hexec)

end Sys2Proof.Machine
end

section
/-! PROOF. The cell's own clock (log 2): what is due, what an empty queue runs, and one bit time; and the state after reset. -/

namespace Sys2Proof.Machine

/-! ### What an empty queue runs -/

theorem step_of_empty {s : State} (h : s.pending = []) : step s = idleStep s := by
  unfold step
  rw [h]

theorem idleStep_of_none {s : State} (h : dueCommands s = []) : idleStep s = .next (advance s) := by
  simp only [idleStep, clockChoice, h]

theorem idleStep_of_one {s : State} {c : Instr} (h : dueCommands s = [c]) : idleStep s = exec c s := by
  simp only [idleStep, clockChoice, h]

/-- Of several due events one is run, with the tie counted. -/
theorem idleStep_of_several {s : State} (h : 2 ≤ (dueCommands s).length) :
    ∃ c ∈ dueCommands s, idleStep s = exec c { s with ties := s.ties + 1 } := by
  match hdue : dueCommands s with
  | [] => simp [hdue] at h
  | [_] => simp [hdue] at h
  | c :: c' :: cs =>
    have hlt : Config.tieChoice s.ties % (c :: c' :: cs).length < (c :: c' :: cs).length :=
      Nat.mod_lt _ (List.length_pos_of_mem List.mem_cons_self)
    refine ⟨(c :: c' :: cs).getD (Config.tieChoice s.ties % (c :: c' :: cs).length) c, ?_, ?_⟩
    · rw [List.getD_eq_getElem _ _ hlt]
      exact List.getElem_mem hlt
    · simp only [idleStep, clockChoice, hdue]

/-! ### What is due -/

theorem mem_edgesDue (s : State) (c : Instr) :
    c ∈ allDirs.flatMap (edgeDue s) ↔ (∃ d, c = .settleExpiry d ∧ (edgeAt s d).settle = some 0)
      ∨ ∃ d, c = .silenceTimerExpiry d ∧ (edgeAt s d).silence = some 0 := by
  simp only [List.mem_flatMap, mem_allDirs, true_and, mem_edgeDue, exists_or]

/-- The timers of the zone record that are due, if there is a record. -/
def recordDue (s : State) : List Instr :=
  match s.zone with
  | none => []
  | some z => zoneDue s.params z

theorem dueCommands_eq (s : State) : dueCommands s = allDirs.flatMap (edgeDue s)
    ++ dueIf (ranOut s.churn.burst) .burstTimerExpiry ++ dueIf (ranOut s.churn.decay) .decayExpiry
    ++ dueIf (ranOut s.quiet) .quietExpiry ++ recordDue s ++ dueIf (ranOut s.cell.orderTimer) .orderTimeout
    ++ dueIf (ranOut s.cell.localRound) .localRound ++ dueIf (decide (s.cell.hold = .running 0)) .holdTimerExpiry
    ++ dueIf (fading s && decide (Config.second ≤ s.light.phase)) .fadeStep ++ dueIf (ranOut s.line.beacon) .beaconExpiry
    ++ dueIf (decide (s.line.view = .idle) && ranOut s.line.backoff) .backoffEnd
    ++ dueIf (s.role.operating && mayBegin s && (selectSlot s.slots).isSome) .attemptStart := rfl

theorem mem_recordDue (s : State) (c : Instr) : c ∈ recordDue s
    ↔ c = .gatherEnd ∧ (∃ z, s.zone = some z ∧ z.gather = some 0)
      ∨ c = .roundClose ∧ (∃ z, s.zone = some z ∧ z.roundTimer = some 0)
      ∨ c = .residencyMet ∧ (∃ z n, s.zone = some z ∧ z.residency = .counting n ∧ minutes s.params.minResidency ≤ n) := by
  unfold recordDue
  cases s.zone with
  | none => simp
  | some z => simp [mem_zoneDue]

theorem fadeStep_due_iff (s : State) : (fading s && decide (Config.second ≤ s.light.phase)) = true
    ↔ s.light.output ≠ s.light.target ∧ 0 < fadeRate s ∧ 62500 ≤ s.light.phase := by
  simp only [fading, Bool.and_eq_true, decide_eq_true_eq, and_assoc]
  rfl

theorem attemptStart_due_iff (s : State) : (s.role.operating && mayBegin s && (selectSlot s.slots).isSome) = true
    ↔ s.role.operating = true ∧ s.line.view = .idle ∧ s.line.backoff = none ∧ s.line.mute = false ∧ selectSlot s.slots ≠ none := by
  simp [mayBegin, and_assoc, Option.isSome_iff_ne_none]

/-- An event is due exactly when its row says so (R103, R108, R116, R144, R153). -/
theorem mem_dueCommands (s : State) (c : Instr) : c ∈ dueCommands s ↔
    (∃ d, c = .settleExpiry d ∧ (edgeAt s d).settle = some 0)
    ∨ (∃ d, c = .silenceTimerExpiry d ∧ (edgeAt s d).silence = some 0)
    ∨ c = .burstTimerExpiry ∧ s.churn.burst = some 0
    ∨ c = .decayExpiry ∧ s.churn.decay = some 0
    ∨ c = .quietExpiry ∧ s.quiet = some 0
    ∨ c = .gatherEnd ∧ (∃ z, s.zone = some z ∧ z.gather = some 0)
    ∨ c = .roundClose ∧ (∃ z, s.zone = some z ∧ z.roundTimer = some 0)
    ∨ c = .residencyMet ∧ (∃ z n, s.zone = some z ∧ z.residency = .counting n ∧ minutes s.params.minResidency ≤ n)
    ∨ c = .orderTimeout ∧ s.cell.orderTimer = some 0
    ∨ c = .localRound ∧ s.cell.localRound = some 0
    ∨ c = .holdTimerExpiry ∧ s.cell.hold = .running 0
    ∨ c = .fadeStep ∧ s.light.output ≠ s.light.target ∧ 0 < fadeRate s ∧ 62500 ≤ s.light.phase
    ∨ c = .beaconExpiry ∧ s.line.beacon = some 0
    ∨ c = .backoffEnd ∧ s.line.view = .idle ∧ s.line.backoff = some 0
    ∨ c = .attemptStart ∧ s.role.operating = true ∧ s.line.view = .idle ∧ s.line.backoff = none ∧ s.line.mute = false
      ∧ selectSlot s.slots ≠ none := by
  have hbackoff : (decide (s.line.view = .idle) && ranOut s.line.backoff) = true
      ↔ s.line.view = .idle ∧ s.line.backoff = some 0 := by simp
  rw [dueCommands_eq]
  simp only [List.mem_append, mem_edgesDue, mem_recordDue, mem_dueIf, ranOut_iff, decide_eq_true_eq, fadeStep_due_iff,
    attemptStart_due_iff, hbackoff, or_assoc]

/-! ### One bit time -/

theorem tickTimer_eq (t : Timer) : tickTimer t = t.map fun n => n - 1 := by
  cases t <;> rfl

theorem ageSlot_eq {α : Type} (f : Slot α) : ageSlot f = f.map fun h => { h with age := h.age + 1 } := by
  cases f <;> rfl

/-- While the output fades the phase of its step grows by the fade rate (R116, log 19). -/
theorem tickLight_eq (s : State) : tickLight s =
    if s.light.output = s.light.target then s.light else { s.light with phase := s.light.phase + fadeRate s } := by
  unfold tickLight fading
  by_cases hsame : s.light.output = s.light.target
  · simp [hsame]
  · obtain hzero | hpos := Nat.eq_zero_or_pos (fadeRate s)
    · simp [hsame, hzero]
    · simp [hsame, hpos]

/-- Settles O2: the lists of due events are read one by one, and one bit time field by field. -/
theorem emptyQueueRunsTheClock : Obligations.EmptyQueueRunsTheClock := by
  refine ⟨fun n => ⟨rfl, rfl⟩, fun s => ?_⟩
  dsimp only
  refine ⟨fun hqueue => ?_, mem_dueCommands s, ?_, fun d => ?_⟩
  · rw [step_of_empty hqueue]
    exact ⟨idleStep_of_none, fun _ => idleStep_of_one, idleStep_of_several⟩
  · have hrate : (if s.role.operating = true then s.params.fadeRate else if s.role = .uncommissioned then 100 else 0)
        = fadeRate s := rfl
    rw [hrate, ← tickLight_eq]
    simp only [advance, mapSlots, ageSlot_eq, tickTimer_eq, State.mk.injEq, true_and, and_true]
    refine ⟨Option.map_congr fun z _ => ?_, ?_⟩
    · cases hr : z.residency <;> simp [tickZone, tickTimer_eq, hr]
    · cases hh : s.cell.hold <;> simp [tickHold]
  · rw [edgeAt_advance]
    simp only [tickEdge, tickTimer_eq]

/-! ### The state after reset -/

theorem allRanged_reset : AllRanged State.reset :=
  allRanged_rest (role := .uncommissioned) (light := ⟨700, 0, 0⟩) (damper := 200) (reheat := 0) (store := Store.new)
    (s := State.reset) rfl ⟨by decide, by decide⟩ (by decide) (by decide)

/-- Settles O17: the ranges hold of every state at rest, and every other invariant is decided on the one reset state. -/
theorem resetMeetsTheInvariants : Obligations.ResetMeetsTheInvariants := by
  obtain ⟨hloaded, hcell, hlight, hzone⟩ := allRanged_reset
  exact ⟨⟨hloaded, ⟨hcell, hlight⟩, fun z hz => (hzone z hz).1⟩, by decide, by decide, by decide, by decide, by decide, by decide,
    by decide, by decide, by decide, by decide, by decide, by decide, by decide, by decide, by decide, by decide, by decide,
    by decide⟩

end Sys2Proof.Machine
end

section
/-! PROOF. The payloads (8.10): every field of a sent payload stands in its place, and a receiver reads back what was sent. -/

namespace Sys2Proof.Machine

/-! ### Numbers in a field -/

/-- A number that a field of `w` bits can hold is read back from it. -/
theorem toNat_ofInt_of_within {w : Nat} {x : Int} (h : Within 0 (2 ^ w - 1) x) : ((BitVec.ofInt w x).toNat : Int) = x := by
  rw [BitVec.toNat_ofInt, Int.toNat_of_nonneg (Int.emod_nonneg _ (by positivity))]
  push_cast
  exact Int.emod_eq_of_lt h.1 (by linarith [h.2])

/-- A signed number that a field of 16 bits can hold is read back from it. -/
theorem toInt_ofInt_word {x : Int} (h : Within (-32768) 32767 x) : (BitVec.ofInt 16 x).toInt = x :=
  BitVec.toInt_ofInt_eq_self (by decide) (by omega) (by omega)

theorem toInt_ofInt_byte {x : Int} (h : Within (-128) 127 x) : (BitVec.ofInt 8 x).toInt = x :=
  BitVec.toInt_ofInt_eq_self (by decide) (by omega) (by omega)

theorem getLsbD_ofBool_zero (b : Bool) : (BitVec.ofBool b).getLsbD 0 = b := by
  cases b <;> rfl

/-! ### The MARK -/

theorem view_ofCode_iff (c : BitVec 2) : (View.ofCode c = .opened ↔ c = 1) ∧ (View.ofCode c = .noView ↔ c = 2) := by
  revert c
  decide

theorem view_ofCode_code (v : View) : View.ofCode v.code = v := by
  cases v <;> rfl

/-- The fields of a MARK payload, from the most significant down (8.10). -/
theorem markPayload_fields (m : Mark) :
    (markPayload m).extractLsb' 60 4 = 0 ∧ (markPayload m).extractLsb' 48 12 = m.epoch
    ∧ (markPayload m).extractLsb' 44 4 = 0 ∧ (markPayload m).extractLsb' 32 12 = m.root
    ∧ (markPayload m).extractLsb' 24 8 = BitVec.ofNat 8 m.hops
    ∧ (markPayload m).extractLsb' 22 2 = m.views.north.code ∧ (markPayload m).extractLsb' 20 2 = m.views.east.code
    ∧ (markPayload m).extractLsb' 18 2 = m.views.south.code ∧ (markPayload m).extractLsb' 16 2 = m.views.west.code
    ∧ (markPayload m).extractLsb' 12 3 = m.role.code ∧ (markPayload m).extractLsb' 8 4 = BitVec.ofNat 4 m.churn
    ∧ (markPayload m).extractLsb' 4 4 = 0 := by
  unfold markPayload
  simp (disch := decide) only [BitVec.extractLsb'_append_eq_of_le, BitVec.extractLsb'_append_eq_of_add_le, Nat.reduceSub,
    Nat.sub_self, BitVec.extractLsb'_eq_self, true_and]
  decide

/-- The single bits of a MARK payload (8.10). -/
theorem markPayload_bits (m : Mark) :
    (markPayload m).getLsbD 15 = false ∧ (markPayload m).getLsbD 3 = m.unheard ∧ (markPayload m).getLsbD 2 = m.mismatch
    ∧ (markPayload m).getLsbD 1 = m.tempFault ∧ (markPayload m).getLsbD 0 = m.hold := by
  simp only [markPayload, BitVec.getLsbD_append, Nat.reduceLT, Nat.reduceSub, Nat.sub_self, Nat.lt_irrefl, ↓reduceIte,
    getLsbD_ofBool_zero, and_self, and_true]
  rfl

/-- The view of an edge in a sent MARK is read back. -/
theorem markView_markPayload (m : Mark) (d : Dir) : markView (markPayload m) d = atDir m.views d := by
  obtain ⟨-, -, -, -, -, hnorth, heast, hsouth, hwest, -⟩ := markPayload_fields m
  cases d with
  | north => exact (congrArg View.ofCode hnorth).trans (view_ofCode_code _)
  | east => exact (congrArg View.ofCode heast).trans (view_ofCode_code _)
  | south => exact (congrArg View.ofCode hsouth).trans (view_ofCode_code _)
  | west => exact (congrArg View.ofCode hwest).trans (view_ofCode_code _)

/-- The code of an own view as 8.10 gives it. -/
theorem view_code_eq (v : View) : v.code = (match v with | .closed => 0 | .opened => 1 | .noView => 2 : BitVec 2) := by
  cases v <;> rfl

/-- Settles O18: from the places of the fields, and the codes of the views and roles. -/
theorem markPayloadReadsBack : Obligations.MarkPayloadReadsBack := by
  refine ⟨fun p d => ?_, fun m d hhops hchurn => ?_⟩
  · cases d <;> exact view_ofCode_iff _
  · obtain ⟨hhigh, hepoch, hmiddle, hroot, hhopsField, hnorth, heast, hsouth, hwest, hrole, hchurnField, hlow⟩ :=
      markPayload_fields m
    obtain ⟨hbit, hunheard, hmismatch, hfault, hhold⟩ := markPayload_bits m
    have hhopsRead : ((markPayload m).extractLsb' 24 8).toNat = m.hops := by
      rw [hhopsField, BitVec.toNat_ofNat]
      exact Nat.mod_eq_of_lt (by omega)
    have hchurnRead : ((markPayload m).extractLsb' 8 4).toNat = m.churn := by
      rw [hchurnField, BitVec.toNat_ofNat]
      exact Nat.mod_eq_of_lt (by omega)
    have hcode : ∀ r, m.role = r → (markPayload m).extractLsb' 12 3 = r.code := fun r h => by rw [hrole, h]
    dsimp only
    refine ⟨?_, hepoch, hroot, hhopsRead, hnorth.trans (view_code_eq _), heast.trans (view_code_eq _),
      hsouth.trans (view_code_eq _), hwest.trans (view_code_eq _), hrole, hcode .settling, hcode .await, hcode .member,
      hcode .orphan, hcode .headGather, hcode .headRun, hchurnRead, hhold, hfault, hmismatch, hunheard, hhigh, hmiddle, hbit, hlow⟩
    simp only [markAdvert, hepoch, hroot, hhopsRead, markView_markPayload]
    rfl

/-! ### The TALLY and the NUDGE -/

/-- The fields of a TALLY payload (8.10). -/
theorem tallyPayload_fields (t : Tally) :
    (tallyPayload t).extractLsb' 80 12 = t.epoch ∧ (tallyPayload t).extractLsb' 76 3 = 0
    ∧ (tallyPayload t).extractLsb' 64 12 = t.addressee ∧ (tallyPayload t).extractLsb' 56 8 = t.round
    ∧ (tallyPayload t).extractLsb' 40 16 = temperatureField t.temperature
    ∧ (tallyPayload t).extractLsb' 28 12 = BitVec.ofInt 12 t.tempPref
    ∧ (tallyPayload t).extractLsb' 16 12 = BitVec.ofInt 12 t.lightPref
    ∧ (tallyPayload t).extractLsb' 0 16 = BitVec.ofInt 16 t.lastDemand := by
  unfold tallyPayload
  simp (disch := decide) only [BitVec.extractLsb'_append_eq_of_le, BitVec.extractLsb'_append_eq_of_add_le, Nat.reduceSub,
    Nat.sub_self, BitVec.extractLsb'_eq_self, true_and]
  decide

/-- The single bits of a TALLY payload (8.10). -/
theorem tallyPayload_bits (t : Tally) :
    (tallyPayload t).getLsbD 95 = t.unheard ∧ (tallyPayload t).getLsbD 94 = t.mismatch ∧ (tallyPayload t).getLsbD 93 = t.hold
    ∧ (tallyPayload t).getLsbD 92 = t.tempFault ∧ (tallyPayload t).getLsbD 79 = t.occupied := by
  simp only [tallyPayload, BitVec.getLsbD_append, Nat.reduceLT, Nat.reduceSub, Nat.sub_self, Nat.lt_irrefl, ↓reduceIte,
    getLsbD_ofBool_zero, and_self]

/-- The temperature field is read back: an absent temperature as absent, a present one as itself (8.10). -/
theorem temperatureField_readsBack {temperature : Option Int} (h : ∀ x ∈ temperature, Within (-100) 600 x) :
    (if temperatureField temperature = 0x8000#16 then none else some (temperatureField temperature).toInt) = temperature := by
  cases temperature with
  | none => rfl
  | some x =>
    obtain ⟨hlo, hhi⟩ := h x rfl
    have hread : (temperatureField (some x)).toInt = x := toInt_ofInt_word ⟨by omega, by omega⟩
    have hpresent : temperatureField (some x) ≠ 0x8000#16 := by
      intro habsent
      have hlowest : x = (0x8000#16).toInt := by rw [← hread, habsent]
      have hvalue : (0x8000#16).toInt = -32768 := by decide
      omega
    rw [if_neg hpresent, hread]

theorem tallyOf_tallyPayload {t : Tally} (htemp : ∀ x ∈ t.temperature, Within (-100) 600 x) (hpref : Within 0 4095 t.tempPref)
    (hlight : Within 0 4095 t.lightPref) (hdemand : Within (-32768) 32767 t.lastDemand) : tallyOf (tallyPayload t) = t := by
  obtain ⟨hepoch, -, haddressee, hround, htempField, hprefField, hlightField, hdemandField⟩ := tallyPayload_fields t
  obtain ⟨hunheard, hmismatch, hhold, hfault, hoccupied⟩ := tallyPayload_bits t
  simp only [tallyOf, hepoch, haddressee, hround, htempField, hprefField, hlightField, hdemandField, hunheard, hmismatch, hhold,
    hfault, hoccupied, temperatureField_readsBack htemp, toNat_ofInt_of_within (w := 12) hpref,
    toNat_ofInt_of_within (w := 12) hlight, toInt_ofInt_word hdemand]

/-- The fields of a NUDGE payload (8.10). -/
theorem nudgePayload_fields (n : Nudge) :
    (nudgePayload n).extractLsb' 52 4 = 0 ∧ (nudgePayload n).extractLsb' 40 12 = n.epoch
    ∧ (nudgePayload n).extractLsb' 36 4 = 0 ∧ (nudgePayload n).extractLsb' 24 12 = n.addressee
    ∧ (nudgePayload n).extractLsb' 16 8 = BitVec.ofInt 8 n.deltas.temp
    ∧ (nudgePayload n).extractLsb' 0 16 = BitVec.ofInt 16 n.deltas.light := by
  unfold nudgePayload
  simp (disch := decide) only [BitVec.extractLsb'_append_eq_of_le, BitVec.extractLsb'_append_eq_of_add_le, Nat.reduceSub,
    Nat.sub_self, BitVec.extractLsb'_eq_self, true_and]
  decide

theorem nudgeOf_nudgePayload {n : Nudge} (htemp : Within (-128) 127 n.deltas.temp)
    (hlight : Within (-32768) 32767 n.deltas.light) : nudgeOf (nudgePayload n) = n := by
  obtain ⟨-, hepoch, -, haddressee, htempField, hlightField⟩ := nudgePayload_fields n
  simp only [nudgeOf, hepoch, haddressee, htempField, hlightField, toInt_ofInt_byte htemp, toInt_ofInt_word hlight]

/-- Settles O19: a receiver reads by places, and the fields stand in them. -/
theorem tallyAndNudgePayloadsReadBack : Obligations.TallyAndNudgePayloadsReadBack := by
  refine ⟨fun t => tallyOf_tallyPayload, fun p => ⟨rfl, rfl, rfl, rfl, rfl, rfl, rfl, rfl, fun h => if_pos h, fun h => if_neg h, rfl, rfl, rfl⟩,
    fun p => ⟨rfl, rfl, rfl, rfl⟩, fun t => ?_, fun n => ?_, fun n => nudgeOf_nudgePayload⟩
  · obtain ⟨-, hreserved, -⟩ := tallyPayload_fields t
    exact hreserved
  · obtain ⟨hhigh, -, hmiddle, -⟩ := nudgePayload_fields n
    exact ⟨hhigh, hmiddle⟩

/-! ### The ORDER -/

/-- The fields of an ORDER payload (8.10). -/
theorem orderPayload_fields (o : Order) :
    (orderPayload o).extractLsb' 92 2 = 0 ∧ (orderPayload o).extractLsb' 80 12 = o.epoch
    ∧ (orderPayload o).extractLsb' 72 8 = o.round ∧ (orderPayload o).extractLsb' 64 8 = BitVec.ofNat 8 o.census
    ∧ (orderPayload o).extractLsb' 48 16 = BitVec.ofInt 16 o.setpoint
    ∧ (orderPayload o).extractLsb' 32 16 = BitVec.ofInt 16 o.lightPref
    ∧ (orderPayload o).extractLsb' 16 16 = BitVec.ofInt 16 o.lightTarget
    ∧ (orderPayload o).extractLsb' 0 16 = BitVec.ofInt 16 o.demand := by
  unfold orderPayload
  simp (disch := decide) only [BitVec.extractLsb'_append_eq_of_le, BitVec.extractLsb'_append_eq_of_add_le, Nat.reduceSub,
    Nat.sub_self, BitVec.extractLsb'_eq_self, true_and]
  decide

/-- The two flags of an ORDER payload (8.10). -/
theorem orderPayload_bits (o : Order) :
    (orderPayload o).getLsbD 95 = decide (o.kind = .control) ∧ (orderPayload o).getLsbD 94 = decide (o.occupancy = .occupied) := by
  simp only [orderPayload, BitVec.getLsbD_append, Nat.reduceLT, Nat.reduceSub, Nat.sub_self, Nat.lt_irrefl, ↓reduceIte,
    getLsbD_ofBool_zero, and_self]

theorem orderOf_orderPayload {o : Order} (hcensus : o.census ≤ 255) (hset : Within 0 65535 o.setpoint)
    (hpref : Within 0 65535 o.lightPref) (htarget : Within 0 65535 o.lightTarget) (hdemand : Within (-32768) 32767 o.demand) :
    orderOf o.source (orderPayload o) = o := by
  obtain ⟨-, hepoch, hround, hcensusField, hsetField, hprefField, htargetField, hdemandField⟩ := orderPayload_fields o
  obtain ⟨hkind, hoccupancy⟩ := orderPayload_bits o
  have hcensusRead : (BitVec.ofNat 8 o.census).toNat = o.census := by
    rw [BitVec.toNat_ofNat]
    exact Nat.mod_eq_of_lt (by omega)
  have hkindRead : (if decide (o.kind = .control) = true then OrderKind.control else .call) = o.kind := by
    cases o.kind <;> rfl
  have hoccupancyRead : (if decide (o.occupancy = .occupied) = true then Occupancy.occupied else .vacant) = o.occupancy := by
    cases o.occupancy <;> rfl
  simp only [orderOf, hepoch, hround, hcensusField, hsetField, hprefField, htargetField, hdemandField, hkind, hoccupancy,
    hcensusRead, hkindRead, hoccupancyRead, toNat_ofInt_of_within (w := 16) hset, toNat_ofInt_of_within (w := 16) hpref,
    toNat_ofInt_of_within (w := 16) htarget, toInt_ofInt_word hdemand]

/-- Settles O20: a cell reads by places, and the fields stand in them. -/
theorem orderPayloadReadsBack : Obligations.OrderPayloadReadsBack := by
  refine ⟨fun source p => ⟨rfl, ?_, ?_, rfl, rfl, rfl, rfl, rfl, rfl, rfl⟩, fun o => ?_, fun o => orderOf_orderPayload⟩
  · dsimp only [orderOf]
    cases p.getLsbD 95 <;> simp
  · dsimp only [orderOf]
    cases p.getLsbD 94 <;> simp
  · obtain ⟨hreserved, -⟩ := orderPayload_fields o
    exact hreserved

end Sys2Proof.Machine
end

section
/-! PROOF. Labels and neighbours, command by command (Chapters 1 and 3): the candidates, a label change, the arrival of a MARK, a
neighbour heard, lost, and its MARK stored. -/

namespace Sys2Proof.Machine

/-! ### A command in operation -/

/-- In an operating role a command that the blocks take does what its block does. -/
theorem exec_of_operating {c : Instr} {f : State → State} {s : State} (hc : exec c s = whenOperating f s)
    (hop : s.role.operating = true) : exec c s = .next (f s) :=
  hc.trans (whenOperating_of hop f)

/-- In an operating role a good frame of another station goes to its handler, acknowledged. -/
theorem exec_of_received {c : Instr} {source : Station} {handler : Option Dir → State → State} {s : State}
    (hc : exec c s = whenOperating (receiveFrame source handler) s) (hop : s.role.operating = true)
    (hview : s.line.view ≠ .resync) (hother : source ≠ s.params.own) :
    exec c s = .next (handler (neighbourDir s source) (acknowledgeFrame s)) := by
  rw [exec_of_operating hc hop, receiveFrame_other hview hother]

/-! ### Candidates and the best one -/

/-- The neighbour candidate of a direction (R37). -/
theorem candidate_eq_some_iff {s : State} {e : Epoch} {d : Dir} {c : Label} : candidate s e d = some c ↔
    ∃ a, (edgeAt s d).advert = some a ∧ (edgeAt s d).effective = .opened ∧ a.epoch = e ∧ a.hops + 1 ≤ 249
      ∧ c = { epoch := e, root := a.root, hops := a.hops + 1 } := by
  unfold candidate
  cases (edgeAt s d).advert with
  | none => simp
  | some a =>
    simp only [Option.some.injEq, Option.ite_none_right_eq_some, exists_eq_left']
    constructor
    · rintro ⟨⟨hopened, hepoch, hhops⟩, rfl⟩
      exact ⟨hopened, hepoch, hhops, rfl⟩
    · rintro ⟨hopened, hepoch, hhops, rfl⟩
      exact ⟨⟨hopened, hepoch, hhops⟩, rfl⟩

/-- Settles O25: the fold over the four directions keeps a candidate that none met so far betters. -/
theorem bestCandidateIsBest : Obligations.BestCandidateIsBest := by
  refine ⟨better_iff, fun s e => ⟨rfl, fun d c => candidate_eq_some_iff, isCandidate_bestLabel s e, ?_, fun d c h => ?_⟩⟩
  · exact IsCandidate.not_better_bestLabel (.inl rfl)
  · exact IsCandidate.not_better_bestLabel (.inr ⟨d, h⟩)

/-! ### A label change and the opening of an epoch -/

/-- Without a stored advert of an epoch the self candidate is its best. -/
theorem bestLabel_of_no_advert {s : State} {e : Epoch} (h : ∀ d, ∀ a ∈ (edgeAt s d).advert, a.epoch ≠ e) :
    bestLabel s e = selfLabel s e := by
  obtain hself | ⟨d, hd⟩ := isCandidate_bestLabel s e
  · exact hself
  · obtain ⟨a, ha, -, hepoch, -⟩ := candidate_eq_some_iff.mp hd
    exact absurd hepoch (h d a ha)

/-- Settles O35. -/
theorem labelChangeSettlesTheCell : Obligations.LabelChangeSettlesTheCell := by
  refine fun l s => ⟨rfl, rfl, fun hmute => ?_, fun hrole => ?_, rfl, fun hadverts => ?_, rfl⟩
  · rw [labelChange_of_mute l hmute]
    rfl
  · rw [labelChange_of_not_mute l hrole]
    rfl
  · rw [openEpoch_eq, labelChange_label, bestLabel_of_no_advert hadverts]
    rfl

/-! ### The arrival of a MARK -/

theorem markArrival_of_closed {d : Dir} {s : State} (a : Advert) (h : (edgeAt s d).effective = .closed) :
    markArrival d a s = s :=
  if_pos h

/-- Across an OPEN direction the order of the epochs decides (R40 to R42). -/
theorem markArrival_of_opened {d : Dir} {s : State} (a : Advert) (h : (edgeAt s d).effective = .opened) :
    markArrival d a s = if newer a.epoch s.label.epoch then adoptEpoch a.epoch s
      else if a.epoch = s.label.epoch then recompute s else queueMark s :=
  if_neg (by rw [h]; decide)

/-- Settles O36: the three orders of the epochs exclude each other. -/
theorem markArrivalByEpoch : Obligations.MarkArrivalByEpoch := by
  refine fun d a s => ⟨markArrival_of_closed a, fun hopened => ⟨fun hnewer => ?_, fun hsame => ?_, fun holder => ?_⟩⟩
  · rw [markArrival_of_opened a hopened, if_pos hnewer]
    rfl
  · rw [markArrival_of_opened a hopened, hsame, newer_self, if_neg Bool.false_ne_true, if_pos rfl]
  · have hne : s.label.epoch ≠ a.epoch := by
      intro heq
      rw [heq, newer_self] at holder
      exact Bool.false_ne_true holder
    have hnot : newer a.epoch s.label.epoch = false := (newer_iff_not_newer hne).mp holder
    rw [markArrival_of_opened a hopened, hnot, if_neg Bool.false_ne_true, if_neg hne.symm]

/-! ### A neighbour lost, and one heard -/

/-- A re-evaluation of an entry just written. -/
theorem reevaluate_setEdge (d : Dir) (e : Edge) (s : State) : reevaluate d (setEdge d e s) =
    if effectiveNow e = e.effective then setEdge d e s else openEpoch (setEdge d (reevaluated e) s) := by
  rw [reevaluate, edgeAt_setEdge_same, setEdge_setEdge]
  rfl

/-- A LOST entry is CLOSED (R15). -/
theorem effectiveNow_lostEdge (e : Edge) : effectiveNow (lostEdge e) = .closed := if_neg fun h => nomatch h.1

/-- Settles O32. -/
theorem silenceMakesTheNeighbourLost : Obligations.SilenceMakesTheNeighbourLost := by
  intro d s hop hactive hruns
  have hexec : exec (.silenceTimerExpiry d) s = .next (reevaluate d (setEdge d (lostEdge (edgeAt s d)) s)) := by
    rw [exec_of_operating (f := silenceEnded d) rfl hop, silenceEnded, if_pos ⟨hactive, hruns⟩]
    rfl
  rw [reevaluate_setEdge, effectiveNow_lostEdge] at hexec
  refine ⟨fun hclosed => ?_, fun hopened => ?_⟩
  · rw [hexec, if_pos (show EdgeState.closed = (lostEdge (edgeAt s d)).effective from hclosed.symm)]
    rfl
  · rw [hexec, if_neg]
    · rw [reevaluated, effectiveNow_lostEdge]
      rfl
    · rw [show (lostEdge (edgeAt s d)).effective = .opened from hopened]
      decide

/-- A neighbour's frame: the entry is refreshed, and its effective state is formed anew where it was not ACTIVE (R8). -/
theorem heard_of_active {d : Dir} {s : State} (h : (edgeAt s d).status = .active) :
    heard d s = setEdge d (heardEdge (edgeAt s d)) s :=
  if_pos h

theorem heard_of_not_active {d : Dir} {s : State} (h : (edgeAt s d).status ≠ .active) :
    heard d s = reevaluate d (setEdge d (heardEdge (edgeAt s d)) s) :=
  if_neg h

/-- The neighbour a source is found to be. -/
theorem neighbour_of_neighbourDir {s : State} {source : Station} {d : Dir} (h : neighbourDir s source = some d) :
    (edgeAt s d).neighbour = some source :=
  of_decide_eq_true (List.find?_some (p := fun d => decide ((edgeAt s d).neighbour = some source)) h)

theorem neighbourDir_eq_none_iff {s : State} {source : Station} :
    neighbourDir s source = none ↔ ∀ d, (edgeAt s d).neighbour ≠ some source := by
  simp only [neighbourDir, List.find?_eq_none, decide_eq_true_eq, mem_allDirs, true_imp_iff, ne_eq]

/-- Settles O34. -/
theorem unroutedFrameOnlyRefreshesTheNeighbour : Obligations.UnroutedFrameOnlyRefreshesTheNeighbour := by
  intro source kind length payload s hop hview hother s0
  have hexec : exec (.unknownKindFrame source kind length) s
      = .next (hearSource (neighbourDir s source) (acknowledgeFrame s)) :=
    exec_of_received (handler := hearSource) rfl hop hview hother
  refine ⟨rfl, hexec, fun d => neighbour_of_neighbourDir, neighbourDir_eq_none_iff, fun hnone => ⟨?_, ?_⟩, fun d hd => ?_⟩
  · rw [hexec, hnone]
    rfl
  · rw [exec_of_received (source := source) rfl hop hview hother, hnone]
    rfl
  · rw [hexec, hd]
    refine ⟨fun hkeeps => ?_, fun hstatus hchanges => ?_⟩
    · by_cases hactive : (edgeAt s d).status = .active
      · exact congrArg _ (heard_of_active (s := acknowledgeFrame s) hactive)
      · refine congrArg _ ((heard_of_not_active (s := acknowledgeFrame s) hactive).trans ?_)
        rw [reevaluate_setEdge]
        exact if_pos (hkeeps.resolve_left hactive)
    · refine congrArg _ ((heard_of_not_active (s := acknowledgeFrame s) hstatus).trans ?_)
      rw [reevaluate_setEdge]
      exact if_neg hchanges

/-! ### A neighbour's MARK -/

/-- The effective state is OPEN exactly on its three inputs (R15). -/
theorem effectiveNow_eq_opened_iff (e : Edge) : effectiveNow e = .opened ↔
    e.status = .active ∧ ownView e = .opened ∧ ∃ a, e.advert = some a ∧ a.facing = .opened := by
  rw [effectiveNow, ← Option.map_eq_some_iff]
  constructor
  · intro h
    by_contra hnot
    rw [if_neg hnot] at h
    exact absurd h (by decide)
  · exact fun h => if_pos h

/-- The own view of each edge kind (R5). -/
theorem ownView_by_kind (e : Edge) :
    (e.kind = .wall → ownView e = .closed) ∧ (e.kind = .fixedOpen → ownView e = .opened)
    ∧ (e.kind = .trackOwned → e.applied = .present → ownView e = .closed)
    ∧ (e.kind = .trackOwned → e.applied = .absent → ownView e = .opened)
    ∧ (e.kind = .trackMirror → e.mirror = .opened → ownView e = .opened)
    ∧ (e.kind = .trackMirror → e.mirror = .closed → ownView e = .closed) ∧ (e.kind = .boundary → ownView e = .noView) := by
  refine ⟨?_, ?_, ?_, ?_, ?_, ?_, ?_⟩ <;> intro hkind <;> simp +contextual [ownView, hkind, viewOf]

/-- The mismatch flag of each edge kind (R12). -/
theorem mismatchOf_by_kind (facing : View) :
    (mismatchOf .wall facing = true ↔ facing = .opened ∨ facing = .noView)
    ∧ (mismatchOf .fixedOpen facing = true ↔ facing = .closed ∨ facing = .noView)
    ∧ (mismatchOf .trackOwned facing = true ↔ facing = .noView) ∧ (mismatchOf .trackMirror facing = true ↔ facing = .noView)
    ∧ mismatchOf .boundary facing = false := by
  cases facing <;> decide

/-- Settles O33. -/
theorem neighbourMarkIsTakenInOrder : Obligations.NeighbourMarkIsTakenInOrder := by
  refine ⟨⟨rfl, rfl, rfl⟩, mismatchOf_by_kind, fun e => ?_, fun source payload d s hop hview hother hd => ?_⟩
  · obtain ⟨hwall, hfixed, hpresent, habsent, hopened, hclosed, hboundary⟩ := ownView_by_kind e
    exact ⟨hwall, hfixed, hpresent, habsent, hopened, hclosed, hboundary, effectiveNow_eq_opened_iff e⟩
  · have hexec : exec (.markReceived source payload) s
        = .next (takeMark d (markAdvert d payload) (acknowledgeFrame s)) := by
      rw [exec_of_received (source := source) rfl hop hview hother, hd]
    rw [hexec, takeMark_eq_mirrorTold, reevaluate_setEdge]
    refine ⟨fun hkeeps => ?_, fun hchanges => ?_⟩
    · exact congrArg (fun t => Host.Outcome.next (markArrival d (markAdvert d payload) t)) (if_pos hkeeps)
    · exact congrArg (fun t => Host.Outcome.next (markArrival d (markAdvert d payload) t)) (if_neg hchanges)

end Sys2Proof.Machine
end

section
/-! PROOF. The Churn Monitor and the owned tracks (Chapter 2): a settle expiry, the timers of the churn count, and the release of
HOLD. -/

namespace Sys2Proof.Machine

/-! ### The settle of an owned track -/

/-- What a settle expiry does after its churn event, with the entry `e` before it and the entry `e1` written (R3). -/
def settleApplied (d : Dir) (e e1 : Edge) (t : State) : State :=
  if e1.applied = e.applied then t
  else if effectiveNow e1 = e.effective then queueMark t
  else openEpoch (setEdge d (reevaluated e1) (queueMark t))

/-- Outside HOLD nothing that comes with a churn event writes an entry. -/
theorem edgeAt_handChurnEvent_of_hold_clear {s : State} (h : s.churn.hold = false) (d : Dir) :
    edgeAt (handChurnEvent s) d = edgeAt s d :=
  (edgeAt_handChurnEvent d s).resolve_right fun hset => Bool.false_ne_true (h.symm.trans hset.1)

/-- Under HOLD the applied state stands (R28). -/
theorem settledEdge_applied_of_hold (e : Edge) : (settledEdge true e).applied = e.applied := rfl

/-- A settle expiry is its churn event and what follows from an applied change (R3). -/
theorem settleEnded_eq_settleApplied {s : State} {d : Dir} (hkind : (edgeAt s d).kind = .trackOwned)
    (hruns : (edgeAt s d).settle.isSome = true) : settleEnded d s =
      settleApplied d (edgeAt s d) (settledEdge s.churn.hold (edgeAt s d))
        (handChurnEvent (setEdge d (settledEdge s.churn.hold (edgeAt s d)) s)) := by
  rw [settleEnded_of_trackOwned hkind hruns, settleApplied]
  split
  · rfl
  · rename_i happlied
    have hclear : s.churn.hold = false := by
      cases hhold : s.churn.hold with
      | false => rfl
      | true => exact absurd (by rw [hhold, settledEdge_applied_of_hold]) happlied
    have hentry : edgeAt (queueMark (handChurnEvent (setEdge d (settledEdge s.churn.hold (edgeAt s d)) s))) d
        = settledEdge s.churn.hold (edgeAt s d) := by
      rw [edgeAt_congr (queueMark_frame _).2.2.1, edgeAt_handChurnEvent_of_hold_clear (by simpa using hclear),
        edgeAt_setEdge_same]
    rw [reevaluate, hentry]
    rfl

/-- Settles O28: the free value decides between the two orders of the tie. -/
theorem settleExpirySettlesTheTrack : Obligations.SettleExpirySettlesTheTrack := by
  refine ⟨⟨rfl, rfl⟩, fun d s hop hkind hruns => ?_⟩
  intro e e1 settled applied
  have hexec : exec (.settleExpiry d) s = .next (applied (handChurnEvent settled)) :=
    (exec_of_operating (f := settleEnded d) rfl hop).trans (congrArg _ (settleEnded_eq_settleApplied hkind hruns))
  rw [hexec]
  refine ⟨fun hfree => ?_, fun hburst hdecay => ?_⟩
  · rw [handChurnEvent, if_neg]
    rintro ⟨hburst, hdecay⟩
    obtain hruns' | hrest := hfree
    · rw [show s.churn.burst = none from hburst] at hruns'
      exact Bool.false_ne_true hruns'
    · exact hrest hdecay
  · intro tied
    obtain hevent | hafter : handChurnEvent settled = churnEvent tied ∨ handChurnEvent settled = churnEvent (decayEnded tied) := by
      rw [handChurnEvent, if_pos ⟨hburst, hdecay⟩]
      dsimp only
      split
      · exact .inl rfl
      · exact .inr rfl
    · exact .inl (by rw [hevent])
    · exact .inr ⟨decayEnded tied, exec_of_operating (s := tied) rfl hop, by rw [hafter]⟩

/-! ### The timers of the churn count -/

/-- The decay timer stops with the count (R24). -/
theorem decayedChurn_eq (p : Params) (c : Churn) : decayedChurn p c = { c with
    count := c.count - 1, decay := if c.count - 1 = 0 then none else some (minutes p.churnDecay) } := by
  unfold decayedChurn
  generalize c.count - 1 = n
  cases n <;> rfl

/-- Settles O30. -/
theorem churnTimersExpire : Obligations.ChurnTimersExpire := by
  refine fun s hop => ⟨?_, fun hruns => ?_⟩
  · exact exec_of_operating (f := fun s => { s with churn := { s.churn with burst := none } }) rfl hop
  intro c s1
  have hdecayed : s1 = { s with churn := decayedChurn s.params s.churn } := by rw [decayedChurn_eq]
  rw [hdecayed, exec_of_operating (f := decayEnded) rfl hop]
  obtain ⟨hstopped, -⟩ | ⟨-, hhold, hbelow, heq⟩ | ⟨-, hkeeps, heq⟩ := decayEnded_cases s
  · rw [hstopped] at hruns
    exact absurd hruns Bool.false_ne_true
  · rw [heq]
    refine ⟨fun _ _ => rfl, fun _ hle => absurd hbelow (Nat.not_lt.mpr hle), fun hclear => ?_⟩
    exact absurd (hclear.symm.trans hhold) Bool.false_ne_true
  · rw [heq]
    exact ⟨fun hhold hlt => absurd hlt (Nat.not_lt.mpr (hkeeps hhold)), fun _ _ => rfl, fun _ => rfl⟩

/-! ### The copies of a release -/

/-- The sensed state of an owned track that its applied state does not follow. -/
def TrackDiffers (e : Edge) : Prop := e.kind = .trackOwned ∧ e.sensed ≠ e.applied

theorem releasedEdge_of_differs {e : Edge} (h : TrackDiffers e) :
    releasedEdge e = { e with applied := e.sensed, effective := effectiveNow { e with applied := e.sensed } } :=
  if_pos h

theorem releasedEdge_of_agrees {e : Edge} (h : ¬ TrackDiffers e) : releasedEdge e = e := if_neg h

theorem releasedEdge_ne_of_differs {e : Edge} (h : TrackDiffers e) : releasedEdge e ≠ e := fun heq => by
  rw [releasedEdge_of_differs h] at heq
  exact h.2 (congrArg Edge.applied heq)

theorem edgeAt_copiedTracks (s : State) (d : Dir) : edgeAt (copiedTracks s) d = releasedEdge (edgeAt s d) := by
  rw [← edgeAt_releaseHold, edgeAt_congr (releaseHold_relabelled s).edges]

/-- No content but MARKs has been handed to a slot since `s`. -/
def MarksHandedSince (s t : State) : Prop :=
  t.slots = s.slots ∨ ∃ m, t.slots = { s.slots with mark := handSlot m s.slots.mark }

/-- A MARK has been queued since `s`, and the last one shows the state as it is now. -/
def MarkedSince (s t : State) : Prop := t.slots = { s.slots with mark := handSlot (formMark t) s.slots.mark }

theorem MarkedSince.handed {s t : State} (h : MarkedSince s t) : MarksHandedSince s t := .inr ⟨_, h⟩

/-- A queued MARK takes the place of one queued before it. -/
theorem MarksHandedSince.queueMark {s t : State} (h : MarksHandedSince s t) : MarkedSince s (queueMark t) := by
  change ({ t.slots with mark := handSlot (formMark t) t.slots.mark } : Slots) = _
  obtain hslots | ⟨m, hslots⟩ := h
  · rw [hslots]
    rfl
  · rw [hslots, handSlot_handSlot]
    rfl

/-- A label change queues a MARK that shows the state it leaves. -/
theorem MarksHandedSince.labelChange {s t : State} (h : MarksHandedSince s t) (l : Label) :
    MarkedSince s (labelChange l t) := by
  unfold Machine.labelChange
  split
  · exact MarksHandedSince.queueMark (t := { t with label := l }) h
  · exact MarksHandedSince.queueMark (t := enterSettling { t with label := l }) h

/-- A MARK shows no effective state, and no slot. -/
theorem formMark_setEdge_effective (d : Dir) (e : Edge) (effective : EdgeState) (s : State) :
    formMark (setEdge d { e with effective := effective } (queueMark (setEdge d e s))) = formMark (queueMark (setEdge d e s)) := by
  cases d <;> rfl

theorem copyTrack_of_agrees {s : State} {d : Dir} (h : ¬ TrackDiffers (edgeAt s d)) : copyTrack s d = s := if_neg h

/-- A copy that differs queues a MARK that shows it. -/
theorem MarksHandedSince.copyTrack_of_differs {s t : State} {d : Dir} (h : MarksHandedSince s t)
    (hdiffers : TrackDiffers (edgeAt t d)) : MarkedSince s (copyTrack t d) := by
  have hcopy : copyTrack t d = setEdge d (reevaluated { edgeAt t d with applied := (edgeAt t d).sensed })
      (Machine.queueMark (setEdge d { edgeAt t d with applied := (edgeAt t d).sensed } t)) := if_pos hdiffers
  have hqueued := MarksHandedSince.queueMark (t := setEdge d { edgeAt t d with applied := (edgeAt t d).sensed } t) h
  rw [hcopy]
  exact hqueued.trans (by rw [reevaluated, formMark_setEdge_effective])

/-- The copies of a release leave the slots, or queue a MARK that shows them all. -/
theorem copiedTracks_slots (s : State) :
    copiedTracks s = { s with churn := { s.churn with hold := false } } ∨ MarkedSince s (copiedTracks s) := by
  refine foldl_keeps (Q := fun t => t = { s with churn := { s.churn with hold := false } } ∨ MarkedSince s t)
    (fun t d ht => ?_) allDirs (.inl rfl)
  have hhanded : MarksHandedSince s t := ht.elim (fun heq => .inl (by rw [heq])) MarkedSince.handed
  by_cases hdiffers : TrackDiffers (edgeAt t d)
  · exact .inr (hhanded.copyTrack_of_differs hdiffers)
  · rw [copyTrack_of_agrees hdiffers]
    exact ht

/-- Where no track differs, the release copies nothing. -/
theorem copiedTracks_of_agree {s : State} (h : ∀ d, ¬ TrackDiffers (edgeAt s d)) :
    copiedTracks s = { s with churn := { s.churn with hold := false } } :=
  foldl_keeps (Q := fun t => t = { s with churn := { s.churn with hold := false } })
    (fun t d ht => by rw [ht]; exact copyTrack_of_agrees (h d)) allDirs rfl

theorem copiedTracks_marked {s : State} {d : Dir} (h : TrackDiffers (edgeAt s d)) : MarkedSince s (copiedTracks s) := by
  refine (copiedTracks_slots s).resolve_left fun heq => releasedEdge_ne_of_differs h ?_
  rw [← edgeAt_copiedTracks, heq]
  rfl

/-! ### The epochs a release opens -/

/-- A fold that takes the same step at every element that `p` does not hold of is that step iterated. -/
theorem foldl_ite_eq_iterate {α β : Type} (p : β → Prop) [DecidablePred p] (f : α → α) (ds : List β) (x : α) :
    ds.foldl (fun t d => if p d then t else f t) x = f^[(ds.filter fun d => decide (¬ p d)).length] x := by
  induction ds generalizing x with
  | nil => rfl
  | cons d ds ih =>
    by_cases h : p d
    · simpa [h] using ih x
    · simpa [h] using ih (f x)

/-- The directions whose effective state a release changes. -/
def releasedDirs (s : State) : List Dir :=
  allDirs.filter fun d => decide ((edgeAt (releaseHold s) d).effective ≠ (edgeAt s d).effective)

/-- A release opens one epoch for each direction whose effective state it changes. -/
theorem releaseHold_eq_iterate (s : State) : releaseHold s = openEpoch^[(releasedDirs s).length] (copiedTracks s) := by
  have hedges : (releaseHold s).edges = (copiedTracks s).edges := (releaseHold_relabelled s).edges
  rw [releasedDirs]
  simp only [edgeAt_congr hedges]
  rw [releaseHold_eq]
  exact foldl_ite_eq_iterate (fun d => (edgeAt (copiedTracks s) d).effective = (edgeAt s d).effective) openEpoch allDirs _

/-- The label an opened epoch gives is read off the entries, the parameters and the label. -/
theorem openEpoch_label_congr {s t : State} (hedges : s.edges = t.edges) (hparams : s.params = t.params)
    (hlabel : s.label = t.label) : (openEpoch s).label = (openEpoch t).label := by
  rw [openEpoch_eq, openEpoch_eq, labelChange_label, labelChange_label, newestEpoch_congr hedges (by rw [hlabel]),
    bestLabel_congr hedges (by rw [hparams])]

theorem iterate_openEpoch_label_congr (n : Nat) {s t : State} (hedges : s.edges = t.edges) (hparams : s.params = t.params)
    (hlabel : s.label = t.label) : (openEpoch^[n] s).label = (openEpoch^[n] t).label := by
  induction n generalizing s t with
  | zero => exact hlabel
  | succ n ih => exact ih (by simpa using hedges) (by simpa using hparams) (openEpoch_label_congr hedges hparams hlabel)

/-- Role, quiet timer, zone record and Cell Control are those of `s`. -/
def SameRole (s t : State) : Prop := t.role = s.role ∧ t.quiet = s.quiet ∧ t.zone = s.zone ∧ t.cell = s.cell

/-- Role, quiet timer, zone record and Cell Control are those of an entry to SETTLING from `s`. -/
def SettledSince (s t : State) : Prop :=
  t.role = .settling ∧ t.quiet = some (seconds s.params.quiet) ∧ t.zone = none
    ∧ t.cell = { s.cell with orderTimer := none, localRound := none }

theorem SameRole.openEpoch {s t : State} (h : SameRole s t) (hmute : s.role = .mute) : SameRole s (openEpoch t) := by
  rw [openEpoch_eq, labelChange_of_mute _ (h.1.trans hmute)]
  exact h

theorem SameRole.settles {s t : State} (h : SameRole s t) (hrole : s.role ≠ .mute) (hparams : t.params = s.params) :
    SettledSince s (Machine.openEpoch t) := by
  obtain ⟨hsame, -, -, hcell⟩ := h
  rw [openEpoch_eq, labelChange_of_not_mute _ (by rwa [hsame])]
  exact ⟨rfl, congrArg (fun p : Params => some (seconds p.quiet)) hparams, rfl,
    congrArg (fun c : Cell => { c with orderTimer := none, localRound := none }) hcell⟩

theorem SettledSince.openEpoch {s t : State} (h : SettledSince s t) (hparams : t.params = s.params) :
    SettledSince s (openEpoch t) := by
  obtain ⟨hrole, -, -, hcell⟩ := h
  rw [openEpoch_eq, labelChange_of_not_mute _ (by rw [hrole]; decide)]
  exact ⟨rfl, congrArg (fun p : Params => some (seconds p.quiet)) hparams, rfl,
    congrArg (fun c : Cell => { c with orderTimer := none, localRound := none }) hcell⟩

theorem sameRole_iterate_openEpoch {s t : State} (h : SameRole s t) (hmute : s.role = .mute) (n : Nat) :
    SameRole s (openEpoch^[n] t) :=
  Function.Iterate.rec (SameRole s) h (fun _ h => h.openEpoch hmute) n

theorem settledSince_iterate_openEpoch {s t : State} (h : SameRole s t) (hrole : s.role ≠ .mute)
    (hparams : t.params = s.params) {n : Nat} (hn : n ≠ 0) : SettledSince s (openEpoch^[n] t) := by
  obtain ⟨n, rfl⟩ := Nat.exists_eq_succ_of_ne_zero hn
  rw [Function.iterate_succ_apply]
  have hfirst : SettledSince s (openEpoch t) ∧ (openEpoch t).params = s.params :=
    ⟨h.settles hrole hparams, by simpa using hparams⟩
  exact (Function.Iterate.rec (fun u => SettledSince s u ∧ u.params = s.params)
    hfirst (fun u hu => ⟨hu.1.openEpoch hu.2, by simpa using hu.2⟩) n).1

theorem markedSince_iterate_openEpoch {s t : State} (h : MarkedSince s t) (n : Nat) : MarkedSince s (openEpoch^[n] t) :=
  Function.Iterate.rec (MarkedSince s) h (fun _ h => h.handed.labelChange _) n

/-! ### The whole release -/

/-- A direction whose effective state a release changes is one whose track differs. -/
theorem differs_of_mem_releasedDirs {s : State} {d : Dir} (h : d ∈ releasedDirs s) : TrackDiffers (edgeAt s d) := by
  by_contra hagrees
  have hchanges := of_decide_eq_true (List.mem_filter.mp h).2
  rw [edgeAt_releaseHold, releasedEdge_of_agrees hagrees] at hchanges
  exact hchanges rfl

theorem releasedDirs_of_agree {s : State} (h : ∀ d, ¬ TrackDiffers (edgeAt s d)) : releasedDirs s = [] :=
  List.eq_nil_iff_forall_not_mem.mpr fun d hd => h d (differs_of_mem_releasedDirs hd)

theorem releaseHold_slots_of_differs {s : State} {d : Dir} (h : TrackDiffers (edgeAt s d)) :
    MarkedSince s (releaseHold s) := by
  rw [releaseHold_eq_iterate]
  exact markedSince_iterate_openEpoch (copiedTracks_marked h) _

theorem releaseHold_slots_of_agree {s : State} (h : ∀ d, ¬ TrackDiffers (edgeAt s d)) :
    (releaseHold s).slots = s.slots := by
  rw [releaseHold_eq_iterate, releasedDirs_of_agree h, copiedTracks_of_agree h]
  rfl

theorem sameRole_copiedTracks (s : State) : SameRole s (copiedTracks s) := by
  obtain ⟨hrole, -, -, -, hquiet, hzone, hcell, -⟩ := copiedTracks_frame s
  exact ⟨hrole, hquiet, hzone, hcell⟩

/-- Settles O31: the copies first, then one epoch for each edge change. -/
theorem releaseCopiesEveryOwnedTrack : Obligations.ReleaseCopiesEveryOwnedTrack := by
  intro s t differs changed
  obtain ⟨-, hparams, -, hlabel, -, -, -, hlight, hfloor, hline, hstore, hport, hties, hpending⟩ := copiedTracks_frame s
  have hopened : Relabelled (copiedTracks s) t := releaseHold_relabelled s
  refine ⟨releaseHold_churn s, fun d => ⟨fun hd => ?_, fun hd => ?_⟩, ?_, fun ⟨d, hd⟩ => releaseHold_slots_of_differs hd,
    releaseHold_slots_of_agree, fun hrests => ?_, fun hchanged hrole => ?_, hopened.params.trans hparams,
    hopened.light.trans hlight, hopened.floorMode.trans hfloor, hopened.line.trans hline, hopened.store.trans hstore,
    hopened.port.trans hport, hopened.ties.trans hties, hopened.pending.trans hpending⟩
  · exact (edgeAt_releaseHold s d).trans (releasedEdge_of_differs hd)
  · exact (edgeAt_releaseHold s d).trans (releasedEdge_of_agrees hd)
  · exact (congrArg State.label (releaseHold_eq_iterate s)).trans
      (iterate_openEpoch_label_congr _ hopened.edges.symm hparams hlabel)
  · change SameRole s (releaseHold s)
    rw [releaseHold_eq_iterate]
    obtain hnone | hmute := hrests
    · rw [show releasedDirs s = [] from hnone]
      exact sameRole_copiedTracks s
    · exact sameRole_iterate_openEpoch (sameRole_copiedTracks s) hmute _
  · change SettledSince s (releaseHold s)
    rw [releaseHold_eq_iterate]
    exact settledSince_iterate_openEpoch (sameRole_copiedTracks s) hrole hparams
      fun hlength => hchanged (List.eq_nil_of_length_eq_zero hlength)

end Sys2Proof.Machine
end

section
/-! PROOF. The Zone Head and the Gateway Filter, command by command (Chapters 4, 5, 6 and 9): the zone's creation, birth and rounds,
the ORDERs of a head, and the received TALLY, NUDGE, PRESET and SCHEDULE frames. -/

namespace Sys2Proof.Machine

/-! ### ORDERs of a head -/

/-- Settles O41. -/
theorem orderStoredAndApplied : Obligations.OrderStoredAndApplied :=
  ⟨fun _ _ _ => rfl, fun _ _ _ => rfl, fun _ s => storeOrder_call s, fun _ s => storeOrder_control s⟩

/-! ### Creation, birth and round close -/

/-- Settles O38. -/
theorem quietExpiryMakesHeadOrAwait : Obligations.QuietExpiryMakesHeadOrAwait := by
  intro s hrole hruns z call
  have hexec : exec .quietExpiry s
      = .next (if s.label.root = s.params.own then enterHeadGather s else enterAwait s) := by
    rw [exec_of_operating (f := quietEnded) rfl (by rw [hrole]; rfl), quietEnded, if_pos ⟨hrole, hruns⟩]
  rw [hexec]
  exact ⟨fun hroot => congrArg _ ((if_pos hroot).trans (enterHeadGather_eq s)), fun hroot => congrArg _ (if_neg hroot)⟩

/-- The residency of a zone at its birth (R108, R109). -/
theorem bornZone_residency (s : State) (z : Zone) : (bornZone s z).residency =
    if (bornZone s z).occupancy = .occupied then startResidency s.params else .stopped := by
  unfold bornZone
  dsimp only
  split
  · rename_i hoccupied
    rw [if_pos hoccupied]
  · rename_i hvacant
    rw [if_neg (by rw [hvacant]; decide)]

/-- Settles O39. -/
theorem gatherEndBearsTheZone : Obligations.GatherEndBearsTheZone := by
  refine ⟨fun _ => rfl, fun s z hrole hz hruns => ?_⟩
  intro roll setpoint lightPref occ temps e i z1
  have hborn : z1 = bornZone s z := by
    change { bornZone s z with
      residency := if (bornZone s z).occupancy = .occupied then startResidency s.params else .stopped } = bornZone s z
    rw [← bornZone_residency]
  rw [hborn, exec_of_operating (f := gatherEnded) rfl (by rw [hrole]; rfl), gatherEnded, hz]
  exact congrArg _ (if_pos ⟨hrole, hruns⟩)

/-- The ageing of an entry (R70). -/
theorem ageEntry_eq_ite (e : Entry) : ageEntry e =
    if e.marked then some { e with freshness := .fresh, marked := false }
    else if e.freshness = .fresh then some { e with freshness := .carried } else none := by
  unfold ageEntry
  cases e.freshness <;> rfl

/-- The occupancy a round close decides (R109, R110). -/
theorem closeOccupancy_fst (p : Params) (roll : List Entry) (z : Zone) : (closeOccupancy p roll z).1 =
    if roll.any Entry.occupied = true ∨ (z.occupancy = .occupied ∧ z.residency ≠ .met) then .occupied else .vacant := by
  unfold closeOccupancy
  cases z.occupancy <;> cases roll.any Entry.occupied
  case occupied.false =>
    by_cases hmet : z.residency = .met
    · simp [hmet]
    · simp [hmet]
  all_goals simp

/-- The residency stands while the occupancy does, starts when the zone turns OCCUPIED and stops when it turns VACANT (R108). -/
theorem closeOccupancy_snd (p : Params) (roll : List Entry) (z : Zone) :
    ((closeOccupancy p roll z).1 = z.occupancy → (closeOccupancy p roll z).2 = z.residency)
    ∧ ((closeOccupancy p roll z).1 = .occupied → z.occupancy = .vacant → (closeOccupancy p roll z).2 = startResidency p)
    ∧ ((closeOccupancy p roll z).1 = .vacant → z.occupancy = .occupied → (closeOccupancy p roll z).2 = .stopped) := by
  unfold closeOccupancy
  cases z.occupancy <;> cases roll.any Entry.occupied
  case occupied.false =>
    by_cases hmet : z.residency = .met
    · simp [hmet]
    · simp [hmet]
  all_goals simp

/-- Settles O40: the record written is the closed zone. -/
theorem roundCloseComputesTheZone : Obligations.RoundCloseComputesTheZone := by
  intro s z hrole hz hruns roll present occ temps e i
  have hroll : closedRoll s z = roll := congrArg (fun f => List.filterMap f _) (funext ageEntry_eq_ite)
  have hocc : (closeOccupancy s.params (closedRoll s z) z).1 = occ := by
    rw [closeOccupancy_fst, hroll]
  obtain ⟨hstands, hstarts, hstops⟩ := closeOccupancy_snd s.params (closedRoll s z) z
  rw [hocc] at hstands hstarts hstops
  have herror : climateError z.setpoint (zoneTemperature ((closedRoll s z).map entryTemperature))
      (effectiveDeadband s.params (closeOccupancy s.params (closedRoll s z) z).1 s.floorMode) = e := by
    rw [hocc, hroll]
    rfl
  refine ⟨closedZone s z, ?_, rfl, rfl, rfl, rfl, hocc, ?_, hstands, hstarts, hstops, ?_, ?_, hroll, congrArg _ hroll, rfl,
    rfl, rfl, rfl⟩
  · rw [exec_of_operating (f := roundClosed) rfl (by rw [hrole]; rfl), roundClosed, hz]
    exact congrArg _ (if_pos ⟨hrole, hruns⟩)
  · exact congrArg (fun o => lightFor s.params o s.floorMode z.lightPref) hocc
  · exact congrArg (fun e => integratorNext (s.params.kp * e) z.integrator (integralIncrement s.params e)) herror
  · exact congrArg (fun e => clampDemand
      (s.params.kp * e + integratorNext (s.params.kp * e) z.integrator (integralIncrement s.params e))) herror

/-! ### What is addressed to the record -/

theorem zoneTakes_of_matches {addressee : Station} {epoch : Epoch} {s : State} {z : Zone} (hz : s.zone = some z)
    (hhead : s.role.isHead = true) (haddressee : addressee = s.params.own) (hepoch : epoch = z.epoch) :
    zoneTakes addressee epoch s = some z := by
  rw [zoneTakes, hz]
  exact if_pos ⟨hhead, haddressee, hepoch⟩

theorem zoneTakes_of_mismatch {addressee : Station} {epoch : Epoch} {s : State} {z : Zone} (hz : s.zone = some z)
    (h : addressee ≠ s.params.own ∨ epoch ≠ z.epoch) : zoneTakes addressee epoch s = none := by
  rw [zoneTakes, hz]
  exact if_neg fun ⟨_, haddressee, hepoch⟩ => h.elim (fun hne => hne haddressee) fun hne => hne hepoch

theorem zoneTakes_of_no_head {s : State} (h : s.zone = none ∨ s.role.isHead = false) (addressee : Station) (epoch : Epoch) :
    zoneTakes addressee epoch s = none := by
  unfold zoneTakes
  obtain hnone | hrole := h
  · rw [hnone]
  · cases s.zone with
    | none => rfl
    | some z => exact if_neg fun hhead => Bool.false_ne_true (hrole.symm.trans hhead.1)

theorem headTally_of_not_taken {source : Station} {t : Tally} {s : State} (h : zoneTakes t.addressee t.epoch s = none) :
    headTally source t s = s := by
  rw [headTally, h]

theorem headNudge_of_not_taken {n : Nudge} {s : State} (h : zoneTakes n.addressee n.epoch s = none) : headNudge n s = s := by
  rw [headNudge, h]

theorem headPreset_of_not_taken {p : Preset} {s : State} (h : zoneTakes p.addressee p.epoch s = none) : headPreset p s = s := by
  rw [headPreset, h]

/-! ### A received TALLY -/

/-- A roll with room for an entry takes it, and any other takes nothing (R61). -/
theorem rollTake_eq (limit : Nat) (new : Entry) (roll : List Entry) : rollTake limit new roll =
    if rollHas new.cell roll = true ∨ roll.length < limit then some (rollWrite new roll) else none := rfl

/-- A gathering head enters a TALLY of round 0 (R64). -/
theorem headTally_of_gather {source : Station} {t : Tally} {s : State} {z : Zone}
    (h : zoneTakes t.addressee t.epoch s = some z) (hrole : s.role = .headGather) : headTally source t s =
      if t.round = 0 ∧ (rollHas source z.roll = true ∨ z.roll.length < 249) then
        { s with zone := some { z with roll := rollWrite (tallyEntry source t) z.roll } }
      else s := by
  rw [headTally, h]
  simp only [hrole, rollTake_eq]
  by_cases hround : t.round = 0
  · rw [if_pos hround]
    by_cases hroom : rollHas (tallyEntry source t).cell z.roll = true ∨ z.roll.length < 249
    · rw [if_pos hroom, if_pos ⟨hround, hroom⟩]
    · rw [if_neg hroom, if_neg fun hboth => hroom hboth.2]
  · rw [if_neg hround, if_neg fun hboth => hround hboth.1]

/-- A running head enters a TALLY of the round open and evaluates its zone (R65). -/
theorem headTally_of_run {source : Station} {t : Tally} {s : State} {z : Zone}
    (h : zoneTakes t.addressee t.epoch s = some z) (hrole : s.role = .headRun) : headTally source t s =
      if t.round = z.round ∧ (rollHas source z.roll = true ∨ z.roll.length < 250) then
        evaluateWritten t.occupied { z with roll := rollWrite (tallyEntry source t) z.roll } s
      else s := by
  rw [headTally, h]
  simp only [hrole, rollTake_eq]
  by_cases hround : t.round = z.round
  · rw [if_pos hround]
    by_cases hroom : rollHas (tallyEntry source t).cell z.roll = true ∨ z.roll.length < 250
    · rw [if_pos hroom, if_pos ⟨hround, hroom⟩]
    · rw [if_neg hroom, if_neg fun hboth => hroom hboth.2]
  · rw [if_neg hround, if_neg fun hboth => hround hboth.1]

/-- A roll that neither has a cell nor has room has no place for it. -/
theorem no_room {source : Station} {roll : List Entry} {limit : Nat} (hnew : rollHas source roll = false)
    (hfull : limit ≤ roll.length) : ¬ (rollHas source roll = true ∨ roll.length < limit) := by
  rintro (hhas | hlt)
  · exact Bool.false_ne_true (hnew.symm.trans hhas)
  · exact absurd hlt (Nat.not_lt.mpr hfull)

theorem evaluateWritten_of_quiet {b : Bool} {z : Zone} (s : State) (h : b = false ∨ z.occupancy = .occupied) :
    evaluateWritten b z s = { s with zone := some z } := by
  refine if_neg fun hboth => ?_
  obtain hfalse | hoccupied := h
  · exact Bool.false_ne_true (hfalse.symm.trans hboth.1)
  · rw [hoccupied] at hboth
    exact absurd hboth.2 (by decide)

theorem evaluateWritten_of_turn {b : Bool} {z : Zone} (s : State) (hb : b = true) (hz : z.occupancy = .vacant) :
    evaluateWritten b z s = queueOrder .control { z with
      occupancy := .occupied, residency := startResidency s.params, lightTarget := z.lightPref } s :=
  if_pos ⟨hb, hz⟩

/-- A TALLY's temperature enters the roll when it is present, without a fault and in range (R63). -/
theorem tallyEntry_temperature (source : Station) (t : Tally) (x : Int) : (tallyEntry source t).temperature = some x ↔
    t.tempFault = false ∧ t.temperature = some x ∧ Within (-100) 600 x := by
  cases hfault : t.tempFault <;> cases htemperature : t.temperature
  case false.some y =>
    simp only [tallyEntry, hfault, htemperature, Bool.false_eq_true, if_false, Option.bind_some, Option.ite_none_right_eq_some,
      Option.some.injEq, true_and]
    constructor
    · rintro ⟨hrange, rfl⟩
      exact ⟨rfl, hrange⟩
    · rintro ⟨rfl, hrange⟩
      exact ⟨hrange, rfl⟩
  all_goals simp [tallyEntry, hfault, htemperature]

/-- Settles O42. -/
theorem tallyEntersTheRoll : Obligations.TallyEntersTheRoll := by
  refine ⟨rollHas_iff, fun p => ⟨fun hzero => if_pos hzero, fun hpos => if_neg hpos.ne'⟩,
    fun source payload s hop hview hother => exec_of_received
      (handler := fun nd s => headTally source (tallyOf payload) (hearSource nd s)) rfl hop hview hother,
    fun source t s hnone => headTally_of_not_taken (zoneTakes_of_no_head hnone _ _),
    fun source t => ⟨rfl, rfl, rfl, rfl, rfl, tallyEntry_temperature source t, rfl, rfl, rfl⟩,
    fun new e roll hsorted => mem_rollWrite_iff hsorted e, fun source t s z hz => ⟨fun hmismatch => ?_, ?_⟩⟩
  · exact headTally_of_not_taken (zoneTakes_of_mismatch hz hmismatch)
  · intro haddressee hepoch
    refine ⟨fun hrole => ?_, fun hrole => ?_⟩
    · rw [headTally_of_gather (zoneTakes_of_matches hz (by rw [hrole]; rfl) haddressee hepoch) hrole]
      exact ⟨fun hround => if_neg fun hboth => hround hboth.1, fun _ hnew hfull => if_neg fun hboth => no_room hnew hfull hboth.2,
        fun hround hroom => if_pos ⟨hround, hroom⟩⟩
    · rw [headTally_of_run (zoneTakes_of_matches hz (by rw [hrole]; rfl) haddressee hepoch) hrole]
      refine ⟨fun hround => if_neg fun hboth => hround hboth.1,
        fun _ hnew hfull => if_neg fun hboth => no_room hnew hfull hboth.2, fun hround hroom => ?_⟩
      rw [if_pos ⟨hround, hroom⟩]
      intro z1
      exact ⟨evaluateWritten_of_quiet (z := z1) s, evaluateWritten_of_turn (z := z1) s⟩

/-! ### NUDGE, PRESET and KEY_PRESS -/

theorem headDeltas_of_gather {s : State} (d : Deltas) (z : Zone) (hrole : s.role = .headGather) :
    headDeltas d z s = { s with zone := some { z with adjust := clampDeltas (addDeltas z.adjust d) } } := by
  simp only [headDeltas, hrole]

theorem headDeltas_of_run {s : State} (d : Deltas) (z : Zone) (hrole : s.role = .headRun) : headDeltas d z s =
    changeZone (clampSetpoint (z.setpoint + d.temp)) (clampLightPref (z.lightPref + d.light)) z s := by
  simp only [headDeltas, hrole]

theorem headPreset_of_gather {p : Preset} {s : State} {z : Zone} (h : zoneTakes p.addressee p.epoch s = some z)
    (hrole : s.role = .headGather) :
    headPreset p s = { s with zone := some { z with preset := ⟨presetField p.setpoint, presetField p.lightPref⟩ } } := by
  simp only [headPreset, h, hrole]

theorem headPreset_of_run {p : Preset} {s : State} {z : Zone} (h : zoneTakes p.addressee p.epoch s = some z)
    (hrole : s.role = .headRun) : headPreset p s =
      changeZone ((presetField p.setpoint).getD z.setpoint) ((presetField p.lightPref).getD z.lightPref) z s := by
  simp only [headPreset, h, hrole]

/-- A PRESET field of 0 leaves the value there is (R66). -/
theorem presetField_getD (x old : Int) : (presetField x).getD old = if x = 0 then old else x := by
  unfold presetField
  split <;> rfl

theorem changeZone_same (z : Zone) (s : State) : changeZone z.setpoint z.lightPref z s = s := if_pos ⟨rfl, rfl⟩

theorem changeZone_of_change {sp lp : Int} {z : Zone} (s : State) (h : sp ≠ z.setpoint ∨ lp ≠ z.lightPref) :
    changeZone sp lp z s = queueOrder .control { z with
      setpoint := sp, lightPref := lp, lightTarget := lightFor s.params z.occupancy s.floorMode lp } s :=
  if_neg fun hsame => h.elim (fun hne => hne hsame.1) fun hne => hne hsame.2

theorem isHead_cases {r : Role} (h : r.isHead = true) : r = .headGather ∨ r = .headRun := by
  cases r <;> simp_all [Role.isHead]

theorem operating_of_isHead {r : Role} (h : r.isHead = true) : r.operating = true := by
  obtain rfl | rfl := isHead_cases h <;> rfl

/-- A press at a head goes to its record (R68, R74). -/
theorem keyPressed_of_head {s : State} {z : Zone} (hz : s.zone = some z) (hhead : s.role.isHead = true) (key : Key) :
    keyPressed key s = headDeltas (keyStep key) z s := by
  obtain hrole | hrole := isHead_cases hhead <;> simp only [keyPressed, hrole, hz]

/-- A PRESET at the Gateway Filter after its frame was heard (R166, R169). -/
theorem exec_presetReceived {source : Station} {payload : BitVec 64} {s : State} (hop : s.role.operating = true)
    (hview : s.line.view ≠ .resync) (hother : source ≠ s.params.own) :
    exec (.presetReceived source payload) s = .next
      (if source ∈ s.params.gateways then
        headPreset (presetOf payload).filtered (hearSource (neighbourDir s source) (acknowledgeFrame s))
      else hearSource (neighbourDir s source) (acknowledgeFrame s)) := by
  rw [exec_of_received (source := source) rfl hop hview hother]
  simp only [filterPreset, fromGateway, hearSource_frame, acknowledgeFrame_frame, decide_eq_true_eq]

/-- Settles O43. -/
theorem nudgePresetAndKeyAtAHead : Obligations.NudgePresetAndKeyAtAHead := by
  refine ⟨fun source payload s hop hview hother => exec_of_received
      (handler := fun nd s => headNudge (nudgeOf payload) (hearSource nd s)) rfl hop hview hother,
    fun source payload s hop hview hother => ⟨fun hlisted => ?_, fun hunlisted => ?_⟩, fun _ => rfl, fun _ => rfl,
    fun s hnone => ⟨fun n => ?_, fun p => ?_⟩, fun s z hz hhead => ⟨fun key => ?_, fun n haddressee hepoch => ?_,
      fun n hmismatch => ?_, fun p hmismatch => ?_, fun hrole => ⟨fun d => ?_, fun p haddressee hepoch => ?_⟩,
      fun hrole => ⟨fun d => ?_, fun p haddressee hepoch => ?_, ?_, fun sp lp => ?_⟩⟩⟩
  · rw [exec_presetReceived hop hview hother, if_pos hlisted]
  · rw [exec_presetReceived hop hview hother, if_neg hunlisted]
  · exact headNudge_of_not_taken (zoneTakes_of_no_head hnone _ _)
  · exact headPreset_of_not_taken (zoneTakes_of_no_head hnone _ _)
  · rw [exec_of_operating (f := keyPressed key) rfl (operating_of_isHead hhead), keyPressed_of_head hz hhead]
    cases key <;> rfl
  · rw [headNudge, zoneTakes_of_matches hz hhead haddressee hepoch]
    rfl
  · exact headNudge_of_not_taken (zoneTakes_of_mismatch hz hmismatch)
  · exact headPreset_of_not_taken (zoneTakes_of_mismatch hz hmismatch)
  · exact headDeltas_of_gather d z hrole
  · exact headPreset_of_gather (zoneTakes_of_matches hz hhead haddressee hepoch) hrole
  · exact headDeltas_of_run d z hrole
  · rw [headPreset_of_run (zoneTakes_of_matches hz hhead haddressee hepoch) hrole, presetField_getD, presetField_getD]
  · exact changeZone_same z s
  · exact changeZone_of_change s

/-! ### SCHEDULE -/

/-- A label change stops two timers of Cell Control at most. -/
theorem labelChange_cell_frame (l : Label) (s : State) :
    (labelChange l s).cell.occupied = s.cell.occupied ∧ (labelChange l s).cell.lightPref = s.cell.lightPref := by
  unfold labelChange
  split <;> exact ⟨rfl, rfl⟩

theorem reevaluate_cell_frame (d : Dir) (s : State) :
    (reevaluate d s).cell.occupied = s.cell.occupied ∧ (reevaluate d s).cell.lightPref = s.cell.lightPref := by
  obtain ⟨-, heq⟩ | ⟨-, heq⟩ := reevaluate_cases d s
  · rw [heq]
    exact ⟨rfl, rfl⟩
  · rw [heq]
    exact labelChange_cell_frame _ _

/-- A neighbour heard changes no occupancy and no preference. -/
theorem hearSource_cell_frame (nd : Option Dir) (s : State) :
    (hearSource nd s).cell.occupied = s.cell.occupied ∧ (hearSource nd s).cell.lightPref = s.cell.lightPref := by
  cases nd with
  | none => exact ⟨rfl, rfl⟩
  | some d =>
    obtain ⟨-, heq⟩ | ⟨-, heq⟩ := heard_cases d s
    · rw [hearSource, heq]
      exact ⟨rfl, rfl⟩
    · rw [hearSource, heq]
      exact reevaluate_cell_frame d _

theorem floorModeOfCode_of_gt {code : BitVec 8} (h : 2 < code.toNat) : FloorMode.ofCode code = none := by
  unfold FloorMode.ofCode
  split
  · omega
  · omega
  · omega
  · rfl

theorem isLocal_iff (r : Role) : r.isLocal = true ↔ r = .orphan ∨ r = .mute := by
  cases r <;> decide

/-- A SCHEDULE at the Gateway Filter after its frame was heard (R166, R167). -/
theorem exec_scheduleReceived {source : Station} {code : BitVec 8} {s : State} (hop : s.role.operating = true)
    (hview : s.line.view ≠ .resync) (hother : source ≠ s.params.own) :
    exec (.scheduleReceived source code) s
      = .next (filterSchedule source code (hearSource (neighbourDir s source) (acknowledgeFrame s))) :=
  exec_of_received (handler := fun nd s => filterSchedule source code (hearSource nd s)) rfl hop hview hother

theorem filterSchedule_of_unlisted {source : Station} {s : State} (code : BitVec 8) (h : source ∉ s.params.gateways) :
    filterSchedule source code s = s :=
  if_neg (by simpa [fromGateway] using h)

theorem filterSchedule_of_listed {source : Station} {s : State} {code : BitVec 8} {mode : FloorMode}
    (h : source ∈ s.params.gateways) (hcode : FloorMode.ofCode code = some mode) :
    filterSchedule source code s = setFloorMode mode s := by
  rw [filterSchedule, if_pos (by simpa [fromGateway] using h), hcode]

theorem filterSchedule_of_no_mode {source : Station} {code : BitVec 8} (s : State) (hcode : FloorMode.ofCode code = none) :
    filterSchedule source code s = s := by
  unfold filterSchedule
  rw [hcode]
  split <;> rfl

/-- Settles O44. -/
theorem scheduleSetsTheFloorMode : Obligations.ScheduleSetsTheFloorMode := by
  intro source code s hop hview hother s0
  have hgateways : s0.params.gateways = s.params.gateways := by simp [s0]
  have hmode : s0.floorMode = s.floorMode := by simp [s0]
  have hparams : s0.params = s.params := by simp [s0]
  obtain ⟨hoccupied, hlight⟩ : s0.cell.occupied = s.cell.occupied ∧ s0.cell.lightPref = s.cell.lightPref :=
    hearSource_cell_frame _ (acknowledgeFrame s)
  rw [exec_scheduleReceived hop hview hother]
  refine ⟨fun hunlisted => ?_, fun hcode => ?_, fun mode hlisted hcode => ?_⟩
  · exact congrArg _ (filterSchedule_of_unlisted code (by rwa [hgateways]))
  · exact congrArg _ (filterSchedule_of_no_mode s0 (floorModeOfCode_of_gt hcode))
  · have hof : FloorMode.ofCode code = some mode := by
      rw [hcode]
      cases mode <;> rfl
    rw [filterSchedule_of_listed (s := s0) (by rwa [hgateways]) hof, setFloorMode, hmode]
    refine ⟨fun hsame => ?_, fun hchange horphan hmute => ?_, fun hchange hlocal => ?_⟩
    · rw [if_pos hsame]
    · rw [if_neg hchange, if_neg fun hlocal => ((isLocal_iff _).mp hlocal).elim horphan hmute]
    · rw [if_neg hchange, if_pos ((isLocal_iff _).mpr hlocal), ← hparams, ← hoccupied, ← hlight]
      rfl

end Sys2Proof.Machine
end

section
/-! PROOF. Cell Control, command by command (Chapters 5, 6 and 7): a received ORDER, the entry to local control, local rounds, cell
occupancy, the fade, the sensor and the keypad. -/

namespace Sys2Proof.Machine

/-! ### A received ORDER -/

theorem offerNudge_of_rest {s : State} (h : s.cell.nudge = ⟨0, 0⟩ ∨ s.cell.outstanding.isSome = true) :
    offerNudge s = s :=
  if_pos h

/-- A pending nudge is handed on when none is outstanding (R134). -/
theorem offerNudge_of_offer {s : State} (hnudge : s.cell.nudge ≠ ⟨0, 0⟩) (hfree : s.cell.outstanding = none) :
    offerNudge s = { s with
      slots := { s.slots with nudge := handSlot ⟨s.label.epoch, s.label.root, s.cell.nudge⟩ s.slots.nudge }
      cell := { s.cell with outstanding := some s.cell.nudge, spent := false } } := by
  refine if_neg fun hrest => hrest.elim hnudge fun hsome => ?_
  rw [hfree] at hsome
  exact Bool.false_ne_true hsome

/-- A stored ORDER leaves the pending nudge and the outstanding NUDGE. -/
theorem storeOrder_nudge (o : Order) (s : State) :
    (storeOrder o s).cell.nudge = s.cell.nudge ∧ (storeOrder o s).cell.outstanding = s.cell.outstanding := by
  obtain ⟨light, heq, -⟩ := storeOrder_cases o s
  rw [heq]
  simp

/-- An answered ORDER leaves the pending nudge, the outstanding NUDGE and the NUDGE slot. -/
theorem answerOrder_nudge (o : Order) (s : State) : (answerOrder o s).cell.nudge = s.cell.nudge
    ∧ (answerOrder o s).cell.outstanding = s.cell.outstanding ∧ (answerOrder o s).slots.nudge = s.slots.nudge := by
  unfold answerOrder
  split <;> exact ⟨rfl, rfl, rfl⟩

/-- The state in which a matching ORDER has been answered, has restarted the order timer and has been stored (R120, steps 1
to 4). -/
def orderTaken (o : Order) (s : State) : State := storeOrder o.clamped (startOrderTimer (answerOrder o s))

/-- The order timer runs for three control intervals (R126). -/
theorem startOrderTimer_of_params {s t : State} (h : t.params = s.params) : startOrderTimer t = { t with
    cell := { t.cell with orderTimer := some (3 * seconds s.params.control) } } := by
  rw [startOrderTimer, ← h]

theorem orderTaken_nudge (o : Order) (s : State) : (orderTaken o s).cell.nudge = s.cell.nudge
    ∧ (orderTaken o s).cell.outstanding = s.cell.outstanding ∧ (orderTaken o s).slots.nudge = s.slots.nudge
    ∧ (orderTaken o s).label = s.label := by
  obtain ⟨hnudge, houtstanding⟩ := storeOrder_nudge o.clamped (startOrderTimer (answerOrder o s))
  obtain ⟨hnudge', houtstanding', hslot⟩ := answerOrder_nudge o s
  exact ⟨hnudge.trans hnudge', houtstanding.trans houtstanding', by simpa [orderTaken] using hslot, by simp [orderTaken]⟩

theorem takeOrder_of_mismatch {o : Order} {s : State} (h : o.epoch ≠ s.label.epoch ∨ o.source ≠ s.label.root) :
    takeOrder o s = s :=
  if_neg fun ⟨_, hepoch, hsource⟩ => h.elim (fun hne => hne hepoch) fun hne => hne hsource

theorem takeOrder_of_role {o : Order} {s : State} (h : s.role.acceptsOrders = false) : takeOrder o s = s :=
  if_neg fun ⟨haccepts, _⟩ => Bool.false_ne_true (h.symm.trans haccepts)

theorem takeOrder_of_matches {o : Order} {s : State} (hrole : s.role.acceptsOrders = true) (hepoch : o.epoch = s.label.epoch)
    (hsource : o.source = s.label.root) :
    takeOrder o s = if s.role = .member then orderTaken o s else enterMember (orderTaken o s) :=
  if_pos ⟨hrole, hepoch, hsource⟩

/-- Settles O45. -/
theorem matchingOrderIsAccepted : Obligations.MatchingOrderIsAccepted := by
  refine ⟨fun source payload s hop hview hother => exec_of_received
      (handler := fun nd s => takeOrder (orderOf source payload) (hearSource nd s)) rfl hop hview hother, fun _ _ => rfl,
    fun o s => ⟨takeOrder_of_mismatch, fun hrole => ?_, fun hrole hepoch hsource => ?_⟩⟩
  · obtain hrole | hrole | hrole := hrole <;> exact takeOrder_of_role (by rw [hrole]; rfl)
  · have haccepts : s.role.acceptsOrders = true := by
      obtain hrole | hrole | hrole | hrole := hrole <;> rw [hrole] <;> rfl
    intro named s1 s2 s3
    have htaken : orderTaken o s = s3 := by
      obtain ⟨-, hparams, -⟩ := answerOrder_frame o s
      rw [orderTaken, startOrderTimer_of_params hparams]
      rfl
    obtain ⟨hnudge, houtstanding, hslot, hlabel⟩ := orderTaken_nudge o s
    rw [htaken] at hnudge houtstanding hslot hlabel
    rw [takeOrder_of_matches haccepts hepoch hsource, htaken]
    refine ⟨fun hmember => if_pos hmember, fun hmember => ?_⟩
    rw [if_neg hmember]
    intro s4
    have henter : enterMember s3 = offerNudge s4 := rfl
    refine ⟨fun hrest => ?_, fun hpending hfree => ?_⟩
    · rw [henter]
      exact offerNudge_of_rest (hrest.imp (fun h => hnudge.trans h) fun h => (congrArg Option.isSome houtstanding).trans h)
    · rw [henter, offerNudge_of_offer (s := s4) (fun h => hpending (hnudge.symm.trans h)) (houtstanding.trans hfree),
        ← hlabel, ← hslot, ← hnudge]

/-! ### Local control -/

/-- A light target and the local round timer do not touch each other. -/
theorem startLocalRound_setTarget (t : Int) (s : State) :
    startLocalRound (setTarget t s) = setTarget t (startLocalRound s) := by
  rw [setTarget_eq, setTarget_eq]
  rfl

/-- In local control the cell is a zone of one (R86, 5.9). -/
theorem localError_eq (s : State) : localError s = climateError s.cell.tempPref
    (if s.cell.tempFault then none else s.cell.temperature)
    (effectiveDeadband s.params (if s.cell.occupied then .occupied else .vacant) s.floorMode) := by
  rw [localError, zoneTemperature_single]
  rfl

/-- Settles O46. -/
theorem entryToLocalControl : Obligations.EntryToLocalControl := by
  refine ⟨fun _ _ => rfl, fun s hrole hruns => ?_, fun s => ?_⟩
  · have hop : s.role.operating = true := by obtain hrole | hrole := hrole <;> rw [hrole] <;> rfl
    exact (exec_of_operating (f := orderTimedOut) rfl hop).trans (congrArg _ (if_pos ⟨hrole, hruns⟩))
  · rw [enterLocal]
    dsimp only
    rw [formLocalTarget, startLocalRound_setTarget, localBirth, localError_eq, meanDemand_single]
    rfl

/-- Settles O47. -/
theorem localRoundComputesTheCell : Obligations.LocalRoundComputesTheCell := by
  intro s hrole hruns e i d
  have hop : s.role.operating = true := by obtain hrole | hrole := hrole <;> rw [hrole] <;> rfl
  have hcell : exec .localRound s = .next { s with cell := localRoundCell s } := by
    rw [exec_of_operating (f := localRoundEnded) rfl hop, localRoundEnded, if_pos ⟨(isLocal_iff _).mpr hrole, hruns⟩]
    rfl
  rw [hcell, localRoundCell, localError_eq]
  rfl

/-! ### Occupancy -/

theorem fastPath_of_lastOrder {s : State} {o : Order} (h : s.cell.lastOrder = some o) :
    fastPath s = if o.occupancy = .vacant then setTarget s.cell.lightPref s else s := by
  rw [fastPath, h]

theorem extraTally_of_lastOrder {s : State} {o : Order} (h : s.cell.lastOrder = some o) :
    extraTally s = queueTally o.round s := by
  rw [extraTally, h]

/-- A head whose zone has just turned OCCUPIED has no fast path left to take (R113, log 22). -/
theorem fastPath_queueOrder_of_occupied {z : Zone} (s : State) (h : z.occupancy = .occupied) :
    fastPath (queueOrder .control z s) = queueOrder .control z s := by
  rw [fastPath_of_lastOrder (queueOrder_lastOrder _ z s)]
  refine if_neg fun hvacant => ?_
  rw [show (zoneOrder s.params.own .control z).occupancy = .occupied from h] at hvacant
  exact absurd hvacant (by decide)

theorem contactAsserted_of_occupied {s : State} (h : s.cell.occupied = true) : contactAsserted s = occupiedState s :=
  if_pos h

theorem contactAsserted_of_onset {s : State} (h : s.cell.occupied = false) :
    contactAsserted s = occupancyOnset (occupiedState s) :=
  if_neg (by rw [h]; exact Bool.false_ne_true)

theorem headOnset_of_zone {s : State} {z : Zone} (h : s.zone = some z) :
    headOnset s = evaluateWritten true { z with roll := markOwn s.params.own z.roll } s := by
  rw [headOnset, h]
  rfl

theorem occupancyOnset_of_rest {s : State} (h : s.role = .settling ∨ s.role = .await) : occupancyOnset s = s := by
  obtain h | h := h <;> rw [occupancyOnset, h]

theorem occupancyOnset_of_local {s : State} (h : s.role = .orphan ∨ s.role = .mute) :
    occupancyOnset s = formLocalTarget s := by
  obtain h | h := h <;> rw [occupancyOnset, h]

theorem occupancyOnset_of_gather {s : State} (h : s.role = .headGather) : occupancyOnset s = fastPath s := by
  rw [occupancyOnset, h]

theorem occupancyOnset_of_member {s : State} {o : Order} (h : s.role = .member) (ho : s.cell.lastOrder = some o) :
    occupancyOnset s = fastPath (queueTally o.round s) := by
  rw [occupancyOnset, h, ← extraTally_of_lastOrder ho]

theorem occupancyOnset_of_run {s : State} {z : Zone} (h : s.role = .headRun) (hz : s.zone = some z) :
    occupancyOnset s = fastPath (evaluateWritten true { z with roll := markOwn s.params.own z.roll } s) := by
  rw [occupancyOnset, h, ← headOnset_of_zone hz]

/-- Settles O48. -/
theorem occupancyOnsetByRole : Obligations.OccupancyOnsetByRole := by
  intro s hop s1
  rw [exec_of_operating (f := contactAsserted) rfl hop]
  refine ⟨fun hrests => congrArg _ ?_, fun hfree => ?_⟩
  · by_cases hoccupied : s.cell.occupied = true
    · exact contactAsserted_of_occupied hoccupied
    · exact (contactAsserted_of_onset (by simpa using hoccupied)).trans
        (occupancyOnset_of_rest (s := s1) (hrests.resolve_left hoccupied))
  · rw [show contactAsserted s = occupancyOnset s1 from contactAsserted_of_onset hfree]
    refine ⟨fun hlocal => congrArg _ (occupancyOnset_of_local (s := s1) hlocal), fun o ho => ?_⟩
    intro lit
    refine ⟨fun hrole => congrArg _ ?_, fun hrole => congrArg _ ?_, fun z hrole hz => ?_⟩
    · exact (occupancyOnset_of_gather (s := s1) hrole).trans (fastPath_of_lastOrder ho)
    · exact (occupancyOnset_of_member (s := s1) hrole ho).trans (fastPath_of_lastOrder (s := queueTally o.round s1) ho)
    · intro z1
      rw [show occupancyOnset s1 = fastPath (evaluateWritten true z1 s1) from occupancyOnset_of_run (s := s1) hrole hz]
      refine ⟨fun hoccupied => congrArg _ ?_, fun hvacant => congrArg _ ?_⟩
      · rw [evaluateWritten_of_quiet (z := z1) s1 (.inr hoccupied)]
        exact fastPath_of_lastOrder (s := { s1 with zone := some z1 }) ho
      · rw [evaluateWritten_of_turn (z := z1) s1 rfl hvacant]
        exact fastPath_queueOrder_of_occupied s1 rfl

/-- Settles O49. -/
theorem occupancyEndsAndResidency : Obligations.OccupancyEndsAndResidency := by
  refine ⟨fun p lp => ⟨fun _ => rfl, rfl, rfl, rfl⟩, fun s hop => ⟨fun hheld => ?_, fun hheld => ?_, fun n hruns => ?_,
    fun z n hz hcounts => ?_⟩⟩
  · rw [exec_of_operating (f := contactReleased) rfl hop, contactReleased, if_pos hheld]
  · rw [exec_of_operating (f := contactReleased) rfl hop, contactReleased, if_neg hheld]
  · rw [exec_of_operating (f := holdEnded) rfl hop, holdEnded, hruns]
    exact ⟨fun horphan hmute => congrArg _ (if_neg fun hlocal => ((isLocal_iff _).mp hlocal).elim horphan hmute),
      fun hlocal => congrArg _ (if_pos ((isLocal_iff _).mpr hlocal))⟩
  · rw [exec_of_operating (f := residencyReached) rfl hop, residencyReached, hz]
    dsimp only
    rw [hcounts]

/-! ### Fade, sensor and keypad -/

/-- Settles O50. -/
theorem fadeAndSensorRead : Obligations.FadeAndSensorRead := by
  refine ⟨fun s hrole => ?_, fun s hop => ⟨?_, fun x => ?_⟩⟩
  · have hexec : exec .fadeStep s = .next (fadeStepped s) := congrArg _ (if_pos hrole)
    rw [hexec, fadeStepped]
    refine ⟨fun hsame => ?_, fun hbelow => ?_, fun habove => ?_⟩
    · rw [if_neg (by omega), if_neg (by omega)]
    · rw [if_pos hbelow]
      rfl
    · rw [if_neg (by omega), if_pos habove]
      rfl
  · exact exec_of_operating (f := readSensor .noReply) rfl hop
  · rw [exec_of_operating (f := readSensor (.reading x)) rfl hop]
    exact ⟨fun hrange => congrArg _ (if_pos hrange), fun hrange => congrArg _ (if_neg (by omega))⟩

theorem keyPressed_of_pending {s : State} (h : s.role = .settling ∨ s.role = .await) (key : Key) :
    keyPressed key s = addToNudge (keyStep key) s := by
  obtain h | h := h <;> rw [keyPressed, h]

theorem keyPressed_of_member {s : State} (h : s.role = .member) (key : Key) :
    keyPressed key s = offerNudge (addToNudge (keyStep key) s) := by
  rw [keyPressed, h]

theorem keyPressed_of_local {s : State} (h : s.role = .orphan ∨ s.role = .mute) (key : Key) :
    keyPressed key s = pressLocal (keyStep key) s := by
  obtain h | h := h <;> rw [keyPressed, h]

/-- Settles O51. -/
theorem keyPressByRole : Obligations.KeyPressByRole := by
  intro key s step nudge tempPref lightPref
  have hstep : keyStep key = step := by cases key <;> rfl
  have hexec : s.role.operating = true → exec (.keyPress key) s = .next (keyPressed key s) :=
    exec_of_operating (f := keyPressed key) rfl
  have hadded : addToNudge (keyStep key) s = { s with cell := { s.cell with nudge := nudge } } := by
    rw [hstep]
    rfl
  refine ⟨fun hrole => ?_, fun hrole hrest => ?_, fun hrole hfree hpending => ?_, fun hrole => ?_⟩
  · rw [hexec (by obtain h | h := hrole <;> rw [h] <;> rfl), keyPressed_of_pending hrole, hadded]
  · rw [hexec (by rw [hrole]; rfl), keyPressed_of_member hrole, hadded]
    exact congrArg _ (offerNudge_of_rest hrest.symm)
  · rw [hexec (by rw [hrole]; rfl), keyPressed_of_member hrole, hadded]
    exact congrArg _ (offerNudge_of_offer hpending hfree)
  · rw [hexec (by obtain h | h := hrole <;> rw [h] <;> rfl), keyPressed_of_local hrole, hstep]
    exact ⟨fun hsame => congrArg _ (if_pos hsame), fun hchange => congrArg _ (if_neg hchange)⟩

end Sys2Proof.Machine
end

section
/-! PROOF. The Floor Line Interface, command by command (Chapter 8): a duplicate number, the start and the ends of an attempt, the
checks and the backoff generator, and the line's own events. -/

namespace Sys2Proof.Machine

/-! ### A duplicate number -/

theorem enterMute_of_mute {s : State} (h : s.role = .mute) : enterMute s = s := if_pos h

/-- A frame with the cell's own number which it is not driving (R148). -/
theorem receiveFrame_own {s : State} (hview : s.line.view ≠ .resync) (hattempt : s.line.attempt = none)
    (handler : Option Dir → State → State) : receiveFrame s.params.own handler s = enterMute (acknowledgeFrame s) := by
  rw [receiveFrame, if_neg hview, if_pos rfl, hattempt]
  rfl

/-- Settles O52. -/
theorem duplicateNumberMutes : Obligations.DuplicateNumberMutes := by
  refine ⟨fun s hop hview hattempt => ?_, fun s a hop ha => ?_, fun _ _ => rfl, fun s => ⟨enterMute_of_mute, fun h => if_neg h⟩⟩
  · intro muted
    have hmuted : ∀ {c : Instr} {handler : Option Dir → State → State},
        exec c s = whenOperating (receiveFrame s.params.own handler) s → exec c s = .next muted := fun hc =>
      (exec_of_operating hc hop).trans (congrArg _ (receiveFrame_own hview hattempt _))
    exact ⟨fun p => hmuted rfl, fun p => hmuted rfl, fun p => hmuted rfl, fun p => hmuted rfl, fun p => hmuted rfl,
      fun p => hmuted rfl, fun k n => hmuted rfl⟩
  · rw [exec_of_operating (f := duplicateDetected) rfl hop, duplicateDetected, ha]
    rfl

/-! ### Checks and bits -/

theorem crcStep_eq (reg : BitVec 16) (bit : Bool) :
    crcStep reg bit = if reg.getLsbD 15 = bit then reg <<< 1 else (reg <<< 1) ^^^ 0x1021#16 := by
  have hmsb : reg.msb = reg.getLsbD 15 := BitVec.msb_eq_getLsbD_last reg
  simp only [crcStep, hmsb, bne_iff_ne, ne_eq, ite_not]

theorem crc16_append (bits : List Bool) (bit : Bool) : crc16 (bits ++ [bit]) = crcStep (crc16 bits) bit := by
  rw [crc16, List.foldl_append]
  rfl

theorem bitsOf_getElem? {w : Nat} (v : BitVec w) {i : Nat} (h : i < w) : (bitsOf v)[i]? = some (v.getLsbD (w - 1 - i)) := by
  simp [bitsOf, h, BitVec.getMsbD]

/-- A frame that the cell sends has a good check (R145). -/
theorem lineFrame_good (cls : Nat) (source : Station) (kind : BitVec 3) (payload : List Byte) :
    (lineFrame cls source kind payload).good = true :=
  decide_eq_true rfl

/-- The bits of a frame end with the acknowledgement slot and the end field, all recessive (8.2). -/
theorem lineFrame_bits (f : LineFrame) : f.bits = [false] ++ bitsOf (BitVec.ofNat 3 f.cls) ++ bitsOf f.source
    ++ checkedBits f.kind f.payload ++ bitsOf f.crc ++ List.replicate 8 true := by
  rw [LineFrame.bits, List.append_assoc _ [true]]
  rfl

/-! ### The start of an attempt -/

theorem mayBegin_iff (s : State) :
    mayBegin s = true ↔ s.line.view = .idle ∧ s.line.backoff = none ∧ s.line.mute = false :=
  decide_eq_true_iff

theorem attemptStarted_of_begin {s : State} {id : SlotId} {cls age : Nat} (hmay : mayBegin s = true)
    (hselect : selectSlot s.slots = some (id, cls, age)) : attemptStarted s = beginAttempt id cls s := by
  rw [attemptStarted, if_pos hmay, hselect]

/-- Without leave to begin, or without a WAITING frame, nothing begins (R144, R156). -/
theorem attemptStarted_of_rest {s : State} (h : mayBegin s = false ∨ selectSlot s.slots = none) : attemptStarted s = s := by
  unfold attemptStarted
  obtain hmay | hselect := h
  · rw [hmay]
    rfl
  · rw [hselect]
    split <;> rfl

/-- Settles O53. -/
theorem attemptStartsTheSelectedFrame : Obligations.AttemptStartsTheSelectedFrame := by
  refine ⟨⟨rfl, fun bits bit => (crc16_append bits bit).trans (crcStep_eq _ _)⟩, fun w v => ⟨by simp [bitsOf], fun i => bitsOf_getElem? v⟩,
    fun f => ⟨decide_eq_true_iff, lineFrame_bits f⟩, ⟨rfl, rfl, rfl, rfl⟩, fun sl => ?_,
    fun s hop => ⟨fun id cls age hidle hbackoff hmute hselect => ?_, fun hrest => ?_, fun f sl => ?_⟩⟩
  · refine ⟨?_, ?_, ?_, ?_⟩ <;>
    · intro f hf
      rw [slotPayload, hf]
      rfl
  · refine ⟨lineFrame cls s.params.own (slotKindCode id) (slotPayload s.slots id), rfl, rfl, rfl, rfl,
      lineFrame_good _ _ _ _, ?_⟩
    rw [exec_of_operating (f := attemptStarted) rfl hop,
      attemptStarted_of_begin ((mayBegin_iff s).mpr ⟨hidle, hbackoff, hmute⟩) hselect]
    rfl
  · rw [exec_of_operating (f := attemptStarted) rfl hop]
    refine congrArg _ (attemptStarted_of_rest ?_)
    rw [← Bool.not_eq_true, mayBegin_iff]
    obtain hview | hbackoff | hmute | hselect := hrest
    · exact .inl fun hmay => hview hmay.1
    · exact .inl fun hmay => hbackoff hmay.2.1
    · exact .inl fun hmay => Bool.false_ne_true (hmay.2.2.symm.trans hmute)
    · exact .inr hselect
  · exact ⟨rfl, rfl, rfl, rfl, fun _ _ => rfl⟩

/-! ### The backoff generator -/

/-- A step feeds stages 16, 14, 13 and 11 back into stage 1 (R154). -/
theorem generatorStep_first (g : BitVec 16) :
    (generatorStep g).getLsbD 0 = (g.getLsbD 15 ^^ g.getLsbD 13 ^^ g.getLsbD 12 ^^ g.getLsbD 10) := by
  simp [generatorStep]

/-- A step shifts every stage up by one (R154). -/
theorem generatorStep_shift (g : BitVec 16) {k : Nat} (h1 : 1 ≤ k) (h2 : k ≤ 15) :
    (generatorStep g).getLsbD k = g.getLsbD (k - 1) := by
  have hk : k < 16 := by omega
  have hk0 : k ≠ 0 := by omega
  have hpred : k - 1 < 16 := by omega
  simp [generatorStep, hk, hk0, hpred]

theorem drawCount_eq (g : BitVec 16) : drawCount g = 4 * (g.getLsbD 15).toNat + 2 * ((generatorStep g).getLsbD 15).toNat
    + ((generatorStep (generatorStep g)).getLsbD 15).toNat := by
  simp only [drawCount, BitVec.msb_eq_getLsbD_last]

/-! ### The ends of an attempt -/

/-- A frame that stays takes newer content in place of its own (R157). -/
theorem takeNewer_eq {α : Type} (f : Held α) :
    takeNewer f = { f with content := f.newer.getD f.content, newer := none } := by
  obtain ⟨_, _, newer, _, _, _, _⟩ := f
  cases newer <;> rfl

theorem handSlot_some {α : Type} (x : α) (f : Held α) :
    (f.inAttempt = false → handSlot x (some f) = some { f with content := x })
    ∧ (f.inAttempt = true → handSlot x (some f) = some { f with newer := some x }) := by
  refine ⟨fun hwaits => ?_, fun hattempt => ?_⟩
  · rw [handSlot, hwaits]
    rfl
  · rw [handSlot, hattempt]
    rfl

/-- A loss below the eighth is counted, and the eighth locks out (R160). -/
theorem loseSlot_some {α : Type} (f : Held α) :
    (f.losses < 7 → loseSlot (some f) = some { f with
      inAttempt := false, content := f.newer.getD f.content, newer := none, losses := f.losses + 1 })
    ∧ (7 ≤ f.losses → loseSlot (some f) = some { f with
      inAttempt := false, content := f.newer.getD f.content, newer := none, losses := 8, lockout := true }) := by
  refine ⟨fun hfew => ?_, fun hmany => ?_⟩
  · have hlosses : min 8 (f.losses + 1) = f.losses + 1 := by omega
    have hlockout : decide (8 ≤ f.losses + 1) = false := decide_eq_false (by omega)
    rw [loseSlot, takeNewer_eq, hlosses, hlockout, Bool.or_false]
  · have hlosses : min 8 (f.losses + 1) = 8 := by omega
    have hlockout : decide (8 ≤ f.losses + 1) = true := decide_eq_true (by omega)
    rw [loseSlot, takeNewer_eq, hlosses, hlockout, Bool.or_true]

theorem retrySlot_some {α : Type} (f : Held α) : retrySlot (some f) = some { f with
    inAttempt := false, content := f.newer.getD f.content, newer := none, losses := 0, retries := f.retries + 1 } := by
  rw [retrySlot, takeNewer_eq]

/-- What a flight leaves of the pending nudge (R134, R135). -/
def flightCell (c : Cell) (d : Deltas) : Cell := { c with nudge := remainder c d, outstanding := none, spent := false }

theorem flightEnd_of_none {s : State} (h : s.cell.outstanding = none) : flightEnd s = s := by
  rw [flightEnd, h]

theorem flightEnd_of_pending {s : State} {d : Deltas} (h : s.cell.outstanding = some d)
    (hrole : s.role = .settling ∨ s.role = .await) : flightEnd s = { s with cell := flightCell s.cell d } := by
  obtain hrole | hrole := hrole <;> simp only [flightEnd, h, hrole, flightCell]

theorem flightEnd_of_member {s : State} {d : Deltas} (h : s.cell.outstanding = some d) (hrole : s.role = .member) :
    flightEnd s = offerNudge { s with cell := flightCell s.cell d } := by
  simp only [flightEnd, h, hrole, flightCell]

/-- In a head role and in local control the flight leaves no remainder (R134). -/
theorem flightEnd_of_other {s : State} {d : Deltas} (h : s.cell.outstanding = some d)
    (hrole : s.role.isHead = true ∨ s.role.isLocal = true) :
    flightEnd s = { s with cell := { s.cell with outstanding := none, spent := false } } := by
  obtain hrole | hrole := hrole
  · obtain hrole | hrole := isHead_cases hrole <;> simp only [flightEnd, h, hrole]
  · obtain hrole | hrole := (isLocal_iff _).mp hrole <;> simp only [flightEnd, h, hrole]

/-- The three ends of an attempt (R146, R150, R151). -/
theorem attempt_ends {s : State} {a : Attempt} (h : s.line.attempt = some a) :
    arbitrationLost s = drawBackoff { endAttempt loseSlot a.slot s with
      line := { s.line with attempt := none, assembling := true } }
    ∧ attemptAcknowledged s = reportLeaving a.slot { endAttempt leaveSlot a.slot s with
      line := { s.line with attempt := none, unheard := false } }
    ∧ attemptUnacknowledged s = if readSlot slotRetries a.slot s.slots < 3 then drawBackoff (endAttempt retrySlot a.slot s)
      else drawBackoff (reportLeaving a.slot { endAttempt leaveSlot a.slot s with
        line := { s.line with attempt := none, unheard := true } }) := by
  refine ⟨?_, ?_, ?_⟩
  · rw [arbitrationLost, h]
    rfl
  · rw [attemptAcknowledged, h]
    rfl
  · rw [attemptUnacknowledged, h]
    rfl

/-- Settles O54. -/
theorem attemptEnds : Obligations.AttemptEnds := by
  refine ⟨fun g => ⟨generatorStep_first g, fun k h1 h2 => generatorStep_shift g (by omega) h2, drawCount_eq g, rfl⟩,
    fun s a hop ha => ?_, fun α x f => ?_, fun _ => rfl, fun _ => ⟨rfl, rfl, rfl⟩, fun s => flightEnd_of_none, fun s d hd => ?_⟩
  · obtain ⟨hlost, hacknowledged, hunacknowledged⟩ := attempt_ends ha
    rw [exec_of_operating (f := arbitrationLost) rfl hop, exec_of_operating (f := attemptAcknowledged) rfl hop,
      exec_of_operating (f := attemptUnacknowledged) rfl hop, hlost, hacknowledged, hunacknowledged]
    exact ⟨rfl, rfl, fun hretry => congrArg _ (if_pos hretry), fun hdropped => congrArg _ (if_neg (by omega))⟩
  · obtain ⟨hwaits, hattempt⟩ := handSlot_some x f
    obtain ⟨hfew, hmany⟩ := loseSlot_some f
    exact ⟨rfl, rfl, hwaits, hattempt, hfew, hmany, retrySlot_some f, rfl⟩
  · intro left s1
    have hleft : { s with cell := flightCell s.cell d } = s1 := rfl
    refine ⟨fun hrole => ?_, fun hrole hnone => ?_, fun hrole hsome => ?_, flightEnd_of_other hd⟩
    · exact flightEnd_of_pending hd hrole
    · exact (flightEnd_of_member hd hrole).trans (offerNudge_of_rest (s := s1) (.inl hnone))
    · exact (flightEnd_of_member hd hrole).trans (offerNudge_of_offer (s := s1) hsome rfl)

/-! ### The line's own events -/

/-- A queued MARK leaves the beacon timer to be stopped (R161). -/
theorem beaconEnded_of_runs {s : State} (h : s.line.beacon.isSome = true) : beaconEnded s =
    { (if s.slots.mark = none then queueMark s else s) with line := { s.line with beacon := none } } := by
  rw [beaconEnded, if_pos h]
  split <;> rfl

theorem promoteSlot_some {α : Type} (f : Held α) :
    promoteSlot (some f) = some { f with age := (f.age / 2500 + 1) * 2500 } := rfl

/-- Settles O55. -/
theorem lineEvents : Obligations.LineEvents := by
  intro s hop backoff
  refine ⟨fun hidle => ?_, fun hbusy hattempt => ⟨?_, ?_⟩, fun hresync => ?_, ?_, fun id => ?_,
    fun α f => ⟨rfl, promoteSlot_some f⟩, fun hruns => ?_⟩
  · exact (exec_of_operating (f := startBitRead) rfl hop).trans (congrArg _ (if_pos hidle))
  · exact (exec_of_operating (f := gapEnded) rfl hop).trans (congrArg _ (if_pos ⟨hbusy, hattempt⟩))
  · exact (exec_of_operating (f := stepLost) rfl hop).trans (congrArg _ (if_pos ⟨hbusy, hattempt⟩))
  · exact (exec_of_operating (f := silenceRead) rfl hop).trans (congrArg _ (if_pos hresync))
  · exact exec_of_operating (f := fun s => { s with line := { s.line with backoff := none } }) rfl hop
  · exact exec_of_operating (f := fun s => { s with slots := mapSlot promoteSlot id s.slots }) rfl hop
  · rw [exec_of_operating (f := beaconEnded) rfl hop, beaconEnded_of_runs hruns]
    refine ⟨fun hempty => ?_, fun hheld => ?_⟩
    · rw [if_pos hempty, queueMark, hempty]
      rfl
    · rw [if_neg hheld]

end Sys2Proof.Machine
end
